-- ==== Sys2Proof/Word.lean ====
section
/-! DEFINITION. The one word type of the model: a byte of a CAN FD message or of a link frame. Every other quantity of the
Solcara 4820 is an integer with a stated range (Introduction, 5.1) and is a `Nat` or an `Int`. -/

namespace Sys2Proof

/-- A byte of a message or of a link frame. -/
abbrev Byte := BitVec 8

end Sys2Proof
end

