-- ==== Sys2Proof/Syntax.lean ====
section
/-! DEFINITION. The commands of the block: one constructor per row of spec/opcode_table.json, in the table's order, with the
row's operands. A port message carries its data bytes, a link frame all its bytes (kind, body, CRC-16), an expiry of a track
entry the entry's track id, and a command of one of two alike units the unit it reaches. -/

namespace Sys2Proof

/-- One of the two lamps, and of the two lamp links (Introduction, 2.3): the L-link is `left`, the R-link `right`. -/
inductive Side where
  | left
  | right
deriving DecidableEq, Repr

/-- One of the two CAN FD ports (Chapter 10). -/
inductive Port where
  | vPort
  | cPort
deriving DecidableEq, Repr

/-- The commands: what the part takes from outside (messages, link frames, bus events, resets), its own timers' expiries and
its own completions. -/
inductive Instr where
  /-- TRACKS (R3): a received frame of identifier 0x1C0. -/
  | tracks (data : List Byte)
  /-- TRACK_END (R10): a received frame of identifier 0x1C1. -/
  | trackEnd (data : List Byte)
  /-- RELEASE_TIMER_EXPIRY (R11) of the entry with this track id. -/
  | releaseTimerExpiry (trackId : Nat)
  /-- TRACK_AGE_EXPIRY (R12) of the entry with this track id. -/
  | trackAgeExpiry (trackId : Nat)
  /-- LANE (R30): a received frame of identifier 0x1C2. -/
  | lane (data : List Byte)
  /-- SCENE (R46): a received frame of identifier 0x1C3. -/
  | scene (data : List Byte)
  /-- MOTION (R24): a received frame of identifier 0x260. -/
  | motion (data : List Byte)
  /-- PRESENCE_STALE (R28): the motion presence timer reaches 100 ms. -/
  | presenceStale
  /-- PRESENCE_LOST (R28): the motion presence timer reaches 500 ms. -/
  | presenceLost
  /-- DRIVER (R44): a received frame of identifier 0x261. -/
  | driver (data : List Byte)
  /-- FLASH_EXPIRY (R45): the flash timer reaches flash_max. -/
  | flashExpiry
  /-- VISION_LOSS (R49): the vision presence timer reaches 200 ms. -/
  | visionLoss
  /-- BUILD_TIMER_EXPIRY (R85): the build timer reaches build_period. -/
  | buildTimerExpiry
  /-- COMPUTE_COMPLETE (R91): the compute of the build in flight is complete. -/
  | computeComplete
  /-- COMMIT_BLOCK_WRITE_DONE (R92): the commit's block write under way completes. -/
  | commitBlockWriteDone
  /-- COMMIT_HEADER_WRITE_DONE (R93): the commit's header write under way completes. -/
  | commitHeaderWriteDone
  /-- LINK_HEADER_READ_DONE (R146): the link's header read under way completes. -/
  | linkHeaderReadDone (link : Side)
  /-- LINK_BLOCK_READ_DONE (R146): the link's block read under way completes. -/
  | linkBlockReadDone (link : Side)
  /-- BLOCK_COMPARE_DONE (R144): the link's block compare under way completes. -/
  | blockCompareDone (link : Side)
  /-- DIAG_BLOCK_READ_DONE (R134): the diagnostic block read under way completes. -/
  | diagBlockReadDone
  /-- LINK_FRAME_SEND_END (R146): the link's frame on the wire ends. -/
  | linkFrameSendEnd (link : Side)
  /-- LAMP_STATE (R139): a link frame of kind 0x20, whole, as received. -/
  | lampState (link : Side) (bytes : List Byte)
  /-- STATUS_TIMER_EXPIRY (R137): the link's status timer reaches 300 ms. -/
  | statusTimerExpiry (link : Side)
  /-- FETCH (R143): a link frame of kind 0x21, whole, as received. -/
  | fetch (link : Side) (bytes : List Byte)
  /-- ACK (R148): a link frame of kind 0x22, whole, as received. -/
  | ack (link : Side) (bytes : List Byte)
  /-- RETRY (R148): a link frame of kind 0x23, whole, as received. -/
  | retry (link : Side) (bytes : List Byte)
  /-- REPLY_TIMEOUT (R147): the link's reply timer reaches 5 ms. -/
  | replyTimeout (link : Side)
  /-- QUIT (R152): a link frame of kind 0x24, whole, as received. -/
  | quit (link : Side) (bytes : List Byte)
  /-- DIST_DATA (R75): a received frame of identifier 0x270. -/
  | distData (data : List Byte)
  /-- DIST_DROP (R78): a received frame of identifier 0x271. -/
  | distDrop (data : List Byte)
  /-- DIST_CLEAR (R79): a received frame of identifier 0x272. -/
  | distClear (data : List Byte)
  /-- DIST_LOCK (R80): a received frame of identifier 0x273. -/
  | distLock (data : List Byte)
  /-- REQUEST_TIMER_EXPIRY (R71): the request timer reaches 250 ms. -/
  | requestTimerExpiry
  /-- CLEAR_FAULTS (R163): a received frame of identifier 0x274. -/
  | clearFaults (data : List Byte)
  /-- CLEAR_NOTICES (R168): a received frame of identifier 0x276. -/
  | clearNotices (data : List Byte)
  /-- NOTICE_MASK (R169): a received frame of identifier 0x275. -/
  | noticeMask (data : List Byte)
  /-- DIAG_READ with target code 0 (R21): a received frame of identifier 0x277. -/
  | diagReadTrackEntry (data : List Byte)
  /-- DIAG_READ with target code 1 (R134): a received frame of identifier 0x277. -/
  | diagReadFrameBlock (data : List Byte)
  /-- DIAG_READ with target code 2 (R164): a received frame of identifier 0x277. -/
  | diagReadCaptureRecord (data : List Byte)
  /-- DIAG_READ with target code 3 (R81): a received frame of identifier 0x277. -/
  | diagReadCacheSlot (data : List Byte)
  /-- DIAG_READ with target code 4 (R81): a received frame of identifier 0x277. -/
  | diagReadLookupHistory (data : List Byte)
  /-- CAL_SET (R179): a received frame of identifier 0x268. -/
  | calSet (data : List Byte)
  /-- CAL_DONE (R180): a received frame of identifier 0x269. -/
  | calDone (data : List Byte)
  /-- CONFIG_ENTER (R181): a received frame of identifier 0x26A. -/
  | configEnter (data : List Byte)
  /-- RESTART (R182): a received frame of identifier 0x26B. -/
  | restart (data : List Byte)
  /-- POWER_ON_RESET (R183): the reset at supply ramp-up or by the reset pin, from its start to its end. -/
  | powerOnReset
  /-- BUS_OFF (R175): the port's controller goes bus-off. -/
  | busOff (port : Port)
  /-- BUS_OFF_RECOVERY (R175): the port's controller recovers. -/
  | busOffRecovery (port : Port)
  /-- TRANSMISSION_END (R174): the port's transmission completes. -/
  | transmissionEnd (port : Port)
deriving DecidableEq, Repr

end Sys2Proof
end

