-- ==== Sys2Proof/Config.lean ====
section
/-! DEFINITION. What the part fixes (figures no calibration changes), and the one choice the spec leaves free. -/

namespace Sys2Proof.Config

/-- Most entries the track table holds (R1). -/
def trackCapacity : Nat := 24

/-- Motion presence: the timer value at which FRESH ends (R28). -/
def staleLimit : Nat := 100

/-- Motion presence: the timer value at which STALE ends (R28). -/
def lostLimit : Nat := 500

/-- The age at which a lane record stops being usable (R31). -/
def laneAgeLimit : Nat := 150

/-- The lowest recorded speed for yaw-derived curvature, cm/s (R32). -/
def yawSpeedMin : Nat := 200

/-- The length of a repeat run that raises MOTION_FROZEN (R26). -/
def repeatRunLength : Nat := 3

/-- The vision presence timeout, ms (R48). -/
def visionLimit : Nat := 200

/-- The request timer's limit, ms (R71). -/
def requestLimit : Nat := 250

/-- The most sends of one request (R71). -/
def requestSends : Nat := 3

/-- The status timer's limit, ms (R136). -/
def statusLimit : Nat := 300

/-- The reply timer's limit, ms (R147). -/
def replyLimit : Nat := 5

/-- The most resends of one transfer (R147, R149). -/
def retryLimit : Nat := 3

/-- The lookup history's length (R68). -/
def historyLength : Nat := 8

/-- A committed value below this is a dark mark of LITMAP (R176). -/
def litThreshold : Nat := 32

/-- The speed below which CONFIG_ENTER can be accepted, cm/s (R181). -/
def configSpeedLimit : Nat := 50

/-- The way a fill takes when both candidates of its set are valid, `true` for way 1: "either may be taken: the part fixes no
rule for the choice, and the outside can neither set nor predict it" (R76). A free value: it has no body, so nothing can be
proved of it, and it is applied to `State.freeIndex`, which every use advances (assumption log 1). -/
opaque victimWay : Nat → Bool

end Sys2Proof.Config
end

