-- ==== Sys2Proof/Machine/Bytes.lean ====
section
/-! DEFINITION. Fields of messages and link frames (10.4: most significant byte first, two's complement, bit 0 least
significant), the CRC-16 of the lamp links, and the two roundings of 5.2. -/

namespace Sys2Proof.Machine

/-- Byte `i` of the data as a number; a byte the data does not have reads as 0. -/
def byteAt (data : List Byte) (i : Nat) : Nat := (data.getD i 0).toNat

/-- Bit `b` of byte `i`; bit 0 is the least significant. -/
def bitAt (data : List Byte) (i b : Nat) : Bool := (byteAt data i).testBit b

/-- The unsigned 16-bit field at bytes `i` and `i + 1`, most significant byte first. -/
def unsigned16 (data : List Byte) (i : Nat) : Nat := byteAt data i * 256 + byteAt data (i + 1)

/-- The value of a two's complement field of `bits` bits whose bits read `n`. -/
def twosComplement (bits n : Nat) : Int := if n < 2 ^ (bits - 1) then (n : Int) else (n : Int) - 2 ^ bits

/-- The signed 16-bit field at bytes `i` and `i + 1`. -/
def signed16 (data : List Byte) (i : Nat) : Int := twosComplement 16 (unsigned16 data i)

/-- The 32-bit word at bytes `i` to `i + 3`, most significant byte first. -/
def unsigned32 (data : List Byte) (i : Nat) : Nat := unsigned16 data i * 65536 + unsigned16 data (i + 2)

/-- A count as one byte. -/
def putByte (n : Nat) : Byte := BitVec.ofNat 8 n

/-- A mark as one byte. DESIGN CHOICE (log 23), unsafe: a clear mark is sent as 0 and a set one as 1. -/
def putMark (b : Bool) : Byte := if b then 1 else 0

/-- A count as two bytes, most significant first. -/
def put16 (n : Nat) : List Byte := [putByte (n / 256), putByte n]

/-- A signed value as two bytes of two's complement, most significant first. -/
def putSigned16 (i : Int) : List Byte := put16 (i % 65536).toNat

/-- The number whose bits, most significant first, are the given marks. -/
def marksToNat (marks : List Bool) : Nat := marks.foldl (fun n b => n * 2 + b.toNat) 0

/-- Data padded with fill bytes to `len` bytes; fill bytes are sent as 0 (10.4). -/
def padTo (len : Nat) (data : List Byte) : List Byte := data ++ List.replicate (len - data.length) 0

/-- One bit step of the CRC-16 with generator x¹⁶ + x¹² + x⁵ + 1 (10.4). -/
def crcBit (crc : BitVec 16) : BitVec 16 := if crc.msb then (crc <<< 1) ^^^ 0x1021#16 else crc <<< 1

/-- One byte step of the CRC-16, most significant bit first. -/
def crcByte (crc : BitVec 16) (b : Byte) : BitVec 16 :=
  crcBit (crcBit (crcBit (crcBit (crcBit (crcBit (crcBit (crcBit (crc ^^^ (b.zeroExtend 16 <<< 8)))))))))

/-- The CRC-16 of a link frame's kind byte and body: initial value 0xFFFF, no reflection, no final inversion (10.4). -/
def crc16 (bytes : List Byte) : BitVec 16 := bytes.foldl crcByte 0xFFFF#16

/-- A link frame as sent: kind byte and body, then the CRC-16, most significant byte first (10.4). -/
def withCrc (bytes : List Byte) : List Byte := bytes ++ put16 (crc16 bytes).toNat

/-- Clamped to a range (5.2). -/
def clamp (lo hi x : Int) : Int := if x < lo then lo else if hi < x then hi else x

/-- A quotient rounded to nearest, halves away from zero (5.2), for a divisor above 0. -/
def roundDiv (n : Int) (d : Nat) : Int :=
  if n < 0 then -((2 * -n + d) / (2 * d)) else (2 * n + d) / (2 * d)

/-- A quotient's floor, toward minus infinity (5.2), for a divisor above 0. -/
def floorDiv (n : Int) (d : Nat) : Int := n / d

end Sys2Proof.Machine
end

