-- ==== Sys2Proof/Machine/Calibration.lean ====
section
/-! DEFINITION. The calibration parameters of Table 10-7: their ids, ranges and defaults, the parameter sets, and the
cross-checks of Table 10-8 (R180). -/

namespace Sys2Proof.Machine

/-- The 49 calibration parameters, in the order of their ids (Table 10-7). -/
inductive Param where
  /-- Id 1, conf_min. -/
  | confMin
  /-- Id 2, release_hold. -/
  | releaseHold
  /-- Id 3, track_expiry. -/
  | trackExpiry
  /-- Id 4, coast_start. -/
  | coastStart
  /-- Id 5, coast_grow. -/
  | coastGrow
  /-- Id 6, lane_conf_min. -/
  | laneConfMin
  /-- Id 7, t_prev. -/
  | tPrev
  /-- Id 8, bend_gain. -/
  | bendGain
  /-- Id 9, bend_max. -/
  | bendMax
  /-- Id 10, bend_step. -/
  | bendStep
  /-- Id 11, level_offset. -/
  | levelOffset
  /-- Id 12, flash_max. -/
  | flashMax
  /-- Id 13, day_lux. -/
  | dayLux
  /-- Id 14, adb_on. -/
  | adbOn
  /-- Id 15, adb_off. -/
  | adbOff
  /-- Id 16, town_lights. -/
  | townLights
  /-- Id 17, confirm_n. -/
  | confirmN
  /-- Id 18, confirm_winding. -/
  | confirmWinding
  /-- Id 19, mode_dist_town. -/
  | modeDistTown
  /-- Id 20, mode_dist_country. -/
  | modeDistCountry
  /-- Id 21, mode_dist_motorway. -/
  | modeDistMotorway
  /-- Id 22, mode_dist_mountain. -/
  | modeDistMountain
  /-- Id 23, mode_dist_weather. -/
  | modeDistWeather
  /-- Id 24, mode_dist_full. -/
  | modeDistFull
  /-- Id 25, build_period. -/
  | buildPeriod
  /-- Id 26, lamp_offset_l. -/
  | lampOffsetL
  /-- Id 27, lamp_offset_r. -/
  | lampOffsetR
  /-- Id 28, cam_height. -/
  | camHeight
  /-- Id 29, d_far. -/
  | dFar
  /-- Id 30, margin_h_oncoming. -/
  | marginHOncoming
  /-- Id 31, margin_v_oncoming. -/
  | marginVOncoming
  /-- Id 32, margin_h_preceding. -/
  | marginHPreceding
  /-- Id 33, margin_v_preceding. -/
  | marginVPreceding
  /-- Id 34, margin_h_sign. -/
  | marginHSign
  /-- Id 35, margin_v_sign. -/
  | marginVSign
  /-- Id 36, shade_level. -/
  | shadeLevel
  /-- Id 37, sign_level. -/
  | signLevel
  /-- Id 38, row_edge_0. -/
  | rowEdge0
  /-- Id 39, row_edge_1. -/
  | rowEdge1
  /-- Id 40, row_edge_2. -/
  | rowEdge2
  /-- Id 41, row_edge_top. -/
  | rowEdgeTop
  /-- Id 42, shoulder. -/
  | shoulder
  /-- Id 43, rise. -/
  | rise
  /-- Id 44, budget. -/
  | budget
  /-- Id 45, budget_min. -/
  | budgetMin
  /-- Id 46, derate. -/
  | derate
  /-- Id 47, t_knee. -/
  | tKnee
  /-- Id 48, yellow_band. -/
  | yellowBand
  /-- Id 49, dead_limit. -/
  | deadLimit
deriving DecidableEq, Repr

/-- A parameter's place in a parameter set: its id less 1. -/
def Param.index : Param → Fin 49
  | .confMin => 0
  | .releaseHold => 1
  | .trackExpiry => 2
  | .coastStart => 3
  | .coastGrow => 4
  | .laneConfMin => 5
  | .tPrev => 6
  | .bendGain => 7
  | .bendMax => 8
  | .bendStep => 9
  | .levelOffset => 10
  | .flashMax => 11
  | .dayLux => 12
  | .adbOn => 13
  | .adbOff => 14
  | .townLights => 15
  | .confirmN => 16
  | .confirmWinding => 17
  | .modeDistTown => 18
  | .modeDistCountry => 19
  | .modeDistMotorway => 20
  | .modeDistMountain => 21
  | .modeDistWeather => 22
  | .modeDistFull => 23
  | .buildPeriod => 24
  | .lampOffsetL => 25
  | .lampOffsetR => 26
  | .camHeight => 27
  | .dFar => 28
  | .marginHOncoming => 29
  | .marginVOncoming => 30
  | .marginHPreceding => 31
  | .marginVPreceding => 32
  | .marginHSign => 33
  | .marginVSign => 34
  | .shadeLevel => 35
  | .signLevel => 36
  | .rowEdge0 => 37
  | .rowEdge1 => 38
  | .rowEdge2 => 39
  | .rowEdgeTop => 40
  | .shoulder => 41
  | .rise => 42
  | .budget => 43
  | .budgetMin => 44
  | .derate => 45
  | .tKnee => 46
  | .yellowBand => 47
  | .deadLimit => 48

/-- The parameters in the order of their ids. -/
def Param.all : List Param :=
  [.confMin, .releaseHold, .trackExpiry, .coastStart, .coastGrow, .laneConfMin, .tPrev,
   .bendGain, .bendMax, .bendStep, .levelOffset, .flashMax, .dayLux, .adbOn,
   .adbOff, .townLights, .confirmN, .confirmWinding, .modeDistTown, .modeDistCountry, .modeDistMotorway,
   .modeDistMountain, .modeDistWeather, .modeDistFull, .buildPeriod, .lampOffsetL, .lampOffsetR, .camHeight,
   .dFar, .marginHOncoming, .marginVOncoming, .marginHPreceding, .marginVPreceding, .marginHSign, .marginVSign,
   .shadeLevel, .signLevel, .rowEdge0, .rowEdge1, .rowEdge2, .rowEdgeTop, .shoulder,
   .rise, .budget, .budgetMin, .derate, .tKnee, .yellowBand, .deadLimit]

/-- A parameter's id (Table 10-7). -/
def Param.id (p : Param) : Nat := p.index.val + 1

/-- The parameter with an id, if the id is in Table 10-7. -/
def paramOfId (n : Nat) : Option Param := if n = 0 then none else Param.all[n - 1]?

/-- A parameter's range, lower end and upper end (Table 10-7). -/
def Param.range : Param → Int × Int
  | .confMin => (0, 100)
  | .releaseHold => (0, 200)
  | .trackExpiry => (60, 500)
  | .coastStart => (0, 499)
  | .coastGrow => (0, 50)
  | .laneConfMin => (0, 100)
  | .tPrev => (500, 3000)
  | .bendGain => (0, 511)
  | .bendMax => (0, 1500)
  | .bendStep => (1, 200)
  | .levelOffset => (-300, 300)
  | .flashMax => (200, 5000)
  | .dayLux => (0, 10000)
  | .adbOn => (0, 4000)
  | .adbOff => (0, 4000)
  | .townLights => (1, 24)
  | .confirmN => (1, 50)
  | .confirmWinding => (1, 50)
  | .modeDistTown => (0, 31)
  | .modeDistCountry => (0, 31)
  | .modeDistMotorway => (0, 31)
  | .modeDistMountain => (0, 31)
  | .modeDistWeather => (0, 31)
  | .modeDistFull => (0, 31)
  | .buildPeriod => (10, 50)
  | .lampOffsetL => (-2000, 2000)
  | .lampOffsetR => (-2000, 2000)
  | .camHeight => (0, 3000)
  | .dFar => (30, 5000)
  | .marginHOncoming => (0, 300)
  | .marginVOncoming => (0, 300)
  | .marginHPreceding => (0, 300)
  | .marginVPreceding => (0, 300)
  | .marginHSign => (0, 300)
  | .marginVSign => (0, 300)
  | .shadeLevel => (0, 255)
  | .signLevel => (0, 255)
  | .rowEdge0 => (-1000, 1000)
  | .rowEdge1 => (-1000, 1000)
  | .rowEdge2 => (-1000, 1000)
  | .rowEdgeTop => (-1000, 1000)
  | .shoulder => (0, 256)
  | .rise => (1, 255)
  | .budget => (0, 30600)
  | .budgetMin => (0, 30600)
  | .derate => (0, 1000)
  | .tKnee => (-40, 150)
  | .yellowBand => (0, 4096)
  | .deadLimit => (1, 16)

/-- A parameter's default (Table 10-7). -/
def Param.default : Param → Int
  | .confMin => 30
  | .releaseHold => 40
  | .trackExpiry => 150
  | .coastStart => 60
  | .coastGrow => 10
  | .laneConfMin => 50
  | .tPrev => 1500
  | .bendGain => 256
  | .bendMax => 800
  | .bendStep => 40
  | .levelOffset => 0
  | .flashMax => 3000
  | .dayLux => 1000
  | .adbOn => 800
  | .adbOff => 600
  | .townLights => 4
  | .confirmN => 10
  | .confirmWinding => 3
  | .modeDistTown => 0
  | .modeDistCountry => 1
  | .modeDistMotorway => 2
  | .modeDistMountain => 3
  | .modeDistWeather => 4
  | .modeDistFull => 5
  | .buildPeriod => 20
  | .lampOffsetL => -1050
  | .lampOffsetR => 1050
  | .camHeight => 1400
  | .dFar => 2000
  | .marginHOncoming => 40
  | .marginVOncoming => 30
  | .marginHPreceding => 25
  | .marginVPreceding => 20
  | .marginHSign => 10
  | .marginVSign => 0
  | .shadeLevel => 0
  | .signLevel => 64
  | .rowEdge0 => -60
  | .rowEdge1 => 40
  | .rowEdge2 => 140
  | .rowEdgeTop => 300
  | .shoulder => 128
  | .rise => 16
  | .budget => 24000
  | .budgetMin => 6000
  | .derate => 150
  | .tKnee => 85
  | .yellowBand => 1024
  | .deadLimit => 12

/-- A parameter set: one value for each parameter, in the order of the ids. -/
structure CalSet where
  values : Vector Int 49
deriving DecidableEq, Repr

/-- The value of a parameter in a set. -/
def CalSet.get (c : CalSet) (p : Param) : Int := c.values.get p.index

/-- The value of a parameter whose range has no negative value. -/
def CalSet.nat (c : CalSet) (p : Param) : Nat := (c.get p).toNat

/-- A set with one parameter's value replaced. -/
def CalSet.put (c : CalSet) (p : Param) (v : Int) : CalSet := ⟨c.values.set p.index v⟩

/-- The set of the defaults (Table 10-7). -/
def defaultCal : CalSet := ⟨Vector.ofFn fun i => (Param.all.getD i.val .confMin).default⟩

/-- A value clamped to a parameter's range (R179). -/
def Param.clampValue (p : Param) (v : Int) : Int := clamp p.range.1 p.range.2 v

/-- The cross-checks of Table 10-8 in table order: the parameter reported by the first that fails, or none (R180). -/
def crossCheck (c : CalSet) : Option Param :=
  if ¬ c.get .rowEdge0 < c.get .rowEdge1 then some .rowEdge1
  else if ¬ c.get .rowEdge1 < c.get .rowEdge2 then some .rowEdge2
  else if ¬ c.get .rowEdge2 < c.get .rowEdgeTop then some .rowEdgeTop
  else if ¬ c.get .adbOff < c.get .adbOn then some .adbOff
  else if ¬ c.get .yellowBand < c.get .budget then some .yellowBand
  else if ¬ c.get .budgetMin ≤ c.get .budget then some .budgetMin
  else if ¬ c.get .coastStart < c.get .trackExpiry then some .coastStart
  else if ¬ (c.get .bendStep ≤ c.get .bendMax ∨ c.get .bendMax = 0) then some .bendStep
  else none

end Sys2Proof.Machine
end

