-- ==== Sys2Proof/Machine/Types.lean ====
section
/-! DEFINITION. The types of the state of each block of Table 2-1, in the manual's own shape. -/

namespace Sys2Proof.Machine

/-! ## Track table (Chapter 1) -/

/-- The class of a road user (Table 1-1). -/
inductive TrackClass where
  | oncoming
  | preceding
  | sign
  | otherLight
deriving DecidableEq, Repr

/-- An entry's state; the release timer is present only while RELEASING, and holds the time remaining (R2). -/
inductive TrackLife where
  | live
  | releasing (remaining : Nat)
deriving DecidableEq, Repr

/-- A track entry (Table 1-1). -/
structure TrackEntry where
  id : Nat
  cls : TrackClass
  thetaL : Int
  thetaR : Int
  phiT : Int
  dist : Nat
  conf : Nat
  life : TrackLife
  age : Nat
deriving DecidableEq, Repr

/-! ## Motion unit (Chapter 2) -/

/-- The motion record: the six fields of the last accepted MOTION, after clamping (R24). -/
structure MotionRecord where
  v : Nat
  omega : Int
  pCab : Int
  pCh : Int
  reverse : Bool
  alive : Nat
deriving DecidableEq, Repr

/-- The lane record and its age (R30). -/
structure LaneRecord where
  kappa : Int
  conf : Nat
  age : Nat
deriving DecidableEq, Repr

/-- Motion presence (R28). -/
inductive MotionPresence where
  | fresh
  | stale
  | lost
deriving DecidableEq, Repr

/-- The motion unit's state (Table 2-4); a timer that is not running is `none`. -/
structure MotionUnit where
  record : Option MotionRecord
  presence : MotionPresence
  timer : Option Nat
  runCount : Nat
  frozenRaised : Bool
  lane : Option LaneRecord
deriving DecidableEq, Repr

/-- The source of a curvature selection (R32). -/
inductive CurvatureSource where
  | noSource
  | vision
  | yaw
deriving DecidableEq, Repr

/-! ## Mode selector and vision presence (Chapter 3) -/

/-- A non-FLASH driver request. -/
inductive SteadyRequest where
  | off
  | low
  | auto
  | high
deriving DecidableEq, Repr

/-- The driver request. -/
inductive DriverRequest where
  | steady (r : SteadyRequest)
  | flash
deriving DecidableEq, Repr

/-- The flash state; the flash timer, the time the flash has run, is present in ACTIVE (Section 3.2). -/
inductive FlashState where
  | idle
  | active (elapsed : Nat)
  | spent
deriving DecidableEq, Repr

/-- The scene record; an unknown ambient is `none` (R46). -/
structure SceneRecord where
  streetLit : Bool
  fog : Bool
  rain : Bool
  ambient : Option Nat
deriving DecidableEq, Repr

/-- The ADB speed gate (R51). -/
inductive SpeedGate where
  | opened
  | closed
deriving DecidableEq, Repr

/-- The road class (Section 3.6). -/
inductive RoadClass where
  | town
  | winding
  | motorway
  | rural
deriving DecidableEq, Repr

/-- The mode selector's state (Table 3-6). -/
structure ModeSelector where
  request : DriverRequest
  lastSteady : SteadyRequest
  flash : FlashState
  scene : SceneRecord
  gate : SpeedGate
  roadClass : RoadClass
  candidate : Option RoadClass
  count : Nat
deriving DecidableEq, Repr

/-- The V-port's vision presence, `true` for PRESENT, and its timer (R48). -/
structure VisionPresence where
  present : Bool
  timer : Option Nat
deriving DecidableEq, Repr

/-- The beam modes (R56). -/
inductive BeamMode where
  | dark
  | low
  | town
  | country
  | motorway
  | mountain
  | weather
  | full
deriving DecidableEq, Repr

/-- The fallback reasons (R171). -/
inductive FallbackReason where
  | noFallback
  | motionLost
  | visionLost
  | distMissing
  | speedLow
  | daylight
deriving DecidableEq, Repr

/-- A selection: mode, fallback reason and flash mark (R56). -/
structure Selection where
  mode : BeamMode
  reason : FallbackReason
  flash : Bool
deriving DecidableEq, Repr

/-! ## Distribution cache (Chapter 4) -/

/-- A cache slot (Table 4-2): 120 values, three row check bytes. -/
structure CacheSlot where
  valid : Bool
  tag : Option Nat
  values : List Nat
  checks : List Nat
  lastUse : Nat
deriving DecidableEq, Repr

/-- An open fill: its id and values 0 to 59 (R75). -/
structure OpenFill where
  id : Nat
  values : List Nat
deriving DecidableEq, Repr

/-- The outstanding request (R70). -/
structure DistRequest where
  id : Nat
  sends : Nat
  timer : Nat
deriving DecidableEq, Repr

/-- The outcome of a lookup (R65). -/
inductive LookupOutcome where
  | hit
  | miss
deriving DecidableEq, Repr

/-- An entry of the lookup history (R68). -/
structure HistoryEntry where
  id : Nat
  outcome : LookupOutcome
deriving DecidableEq, Repr

/-- The distribution cache's state (Table 4-3). Slot `set * 2 + way` is at that index; a closed fill buffer is `none`; the
failed-id set is its members in rising order. -/
structure DistCache where
  slots : Vector CacheSlot 8
  lockLevel : Nat
  protect : Bool
  disableWay0 : Bool
  disableWay1 : Bool
  fill : Option OpenFill
  request : Option DistRequest
  failed : List Nat
  history : List HistoryEntry
deriving DecidableEq, Repr

/-! ## Frames (Chapters 6 and 7) -/

/-- A frame's header (Table 6-3). -/
structure FrameHeader where
  sequence : Nat
  mode : BeamMode
  lowOn : Bool
  bend : Int
  level : Int
  distHeld : Bool
  yellowL : Bool
  yellowR : Bool
  clampedL : Bool
  clampedR : Bool
  reason : FallbackReason
deriving DecidableEq, Repr

/-- A frame: its header and the 120 segment values of each lamp, segment `row * 40 + column` at that index (5.3). -/
structure Frame where
  header : FrameHeader
  left : List Nat
  right : List Nat
deriving DecidableEq, Repr

/-! ## Pattern builder (Chapters 5 and 6) -/

/-- The builder's mirror of the newest frame (R90). -/
structure Mirror where
  sequence : Nat
  mode : BeamMode
  reason : FallbackReason
  bend : Int
  level : Int
  left : List Nat
  right : List Nat
deriving DecidableEq, Repr

/-- A snapshot's copy of an active entry (R16). -/
structure TrackCopy where
  cls : TrackClass
  thetaL : Int
  thetaR : Int
  phiT : Int
  dist : Nat
  age : Nat
deriving DecidableEq, Repr

/-- A snapshot's copy of one lamp's status (R141). -/
structure LampSnapshot where
  up : Bool
  temp : Option Int
  dead : List Nat
deriving DecidableEq, Repr

/-- A build's snapshot (Table 5-1); `lookup` is `none` when the mode needs no distribution. -/
structure Snapshot where
  tracks : List TrackCopy
  motion : Option MotionRecord
  presence : MotionPresence
  kappa : Int
  source : CurvatureSource
  selection : Selection
  request : DriverRequest
  roadClass : RoadClass
  lookup : Option LookupOutcome
  lampL : LampSnapshot
  lampR : LampSnapshot
  previous : Mirror
deriving DecidableEq, Repr

/-- A build in flight: its sequence, its claimed slot and its snapshot (R87). -/
structure Build where
  sequence : Nat
  slot : Fin 6
  snapshot : Snapshot
deriving DecidableEq, Repr

/-- The builder's state; in COMMITTING the computed frame and the number of its eleven writes done (R85, R92). -/
inductive BuilderPhase where
  | idle
  | computing (build : Build)
  | committing (build : Build) (frame : Frame) (writesDone : Nat)
deriving DecidableEq, Repr

/-- The pattern builder: build timer (`none` when stopped), phase, working copy (`none` when empty), mirror. -/
structure PatternBuilder where
  timer : Option Nat
  phase : BuilderPhase
  workingCopy : Option (List Nat)
  mirror : Mirror
deriving DecidableEq, Repr

/-- A shading zone on one lamp (R108). -/
structure Zone where
  cls : TrackClass
  cL : Nat
  cR : Nat
  rows : List Nat
  level : Nat
  leftShoulder : Option Nat
  rightShoulder : Option Nat
deriving DecidableEq, Repr

/-- The bands of the drive budget (R120). -/
inductive BudgetBand where
  | green
  | yellow
  | red
deriving DecidableEq, Repr

/-! ## Frame store (Chapter 7) -/

/-- The state of a frame-store slot (Table 7-1). -/
inductive SlotState where
  | free
  | building
  | stored
deriving DecidableEq, Repr

/-- A holder set: for each of the four lamp-link roles, whether it stands in the set (Table 7-1). -/
structure HolderSet where
  leftApplied : Bool
  leftIncoming : Bool
  rightApplied : Bool
  rightIncoming : Bool
deriving DecidableEq, Repr

/-- The frame memory of a slot: a header, and for each lamp five blocks of 24 values (R124). -/
structure FrameMemory where
  header : FrameHeader
  left : Vector (List Nat) 5
  right : Vector (List Nat) 5
deriving DecidableEq, Repr

/-- A frame-store slot: its slot-table entry (Table 7-1) and its frame memory. -/
structure FrameSlot where
  state : SlotState
  newest : Bool
  holders : HolderSet
  sequence : Option Nat
  memory : FrameMemory
deriving DecidableEq, Repr

/-- The requesters of the access port (R132). -/
inductive Requester where
  | commit
  | linkL
  | linkR
  | diag
deriving DecidableEq, Repr

/-- The port accesses of Table 7-3; a diagnostic block read is named apart from a link's. -/
inductive PortAccess where
  | blockWrite (lamp : Side) (block : Fin 5)
  | headerWrite
  | headerRead (slot : Fin 6)
  | blockRead (slot : Fin 6) (lamp : Side) (block : Fin 5)
  | compare (incoming applied : Fin 6) (lamp : Side) (block : Fin 5)
  | diagRead (slot : Fin 6) (lamp : Side) (block : Fin 5)
deriving DecidableEq, Repr

/-- The frame block reply's fields, as judged at the grant (Table 7-4). -/
structure FrameBlockData where
  newest : Bool
  holders : HolderSet
  sequence : Nat
  values : List Nat
deriving DecidableEq, Repr

/-- An access under way: its requester, what it is, whether its result is still wanted (a link's abandoned attempt leaves one
to be discarded, R147), and for a diagnostic read the reply's fields taken at the grant. -/
structure PortUse where
  requester : Requester
  access : PortAccess
  wanted : Bool
  found : Option FrameBlockData
deriving DecidableEq, Repr

/-- The frame store: six slots, the access port, the waiting request of each requester, and the last-granted requester. -/
structure FrameStore where
  slots : Vector FrameSlot 6
  busy : Option PortUse
  waitCommit : Option PortAccess
  waitLinkL : Option PortAccess
  waitLinkR : Option PortAccess
  waitDiag : Option PortAccess
  lastGranted : Requester
deriving DecidableEq, Repr

/-! ## Lamp links (Chapter 8) -/

/-- A transfer's current step (Table 8-2). -/
inductive TransferStep where
  | compare
  | header
  | block (k : Fin 5)
  | finish
deriving DecidableEq, Repr

/-- The transfer record (Table 8-2); the block map is its members in ascending order; the reply timer is `none` when it is not
running. -/
structure Transfer where
  tag : Nat
  slot : Fin 6
  sequence : Nat
  map : List (Fin 5)
  same : Bool
  step : TransferStep
  retries : Nat
  replyTimer : Option Nat
deriving DecidableEq, Repr

/-- The applied hold: a slot and that slot's sequence (R142). -/
structure AppliedHold where
  slot : Fin 6
  sequence : Nat
deriving DecidableEq, Repr

/-- The link state (R136). -/
inductive LinkState where
  | down
  | up
deriving DecidableEq, Repr

/-- A lamp link: link state and status timer, lamp status (unknown is `none`), dead-limit flag, transfer record (`none` when
IDLE), applied hold, tag counter, the frame on the wire, and the frame waiting to follow it (R136, R139, R140, R142, R146). -/
structure LampLink where
  state : LinkState
  statusTimer : Option Nat
  temp : Option Int
  supplyOk : Option Bool
  dead : List Nat
  deadLimitFlag : Bool
  transfer : Option Transfer
  applied : Option AppliedHold
  tagCounter : Nat
  wire : Option (List Byte)
  waiting : Option (List Byte)
deriving DecidableEq, Repr

/-! ## Diagnostic unit (Chapter 9) -/

/-- The fault kinds, in table order (Table 9-1). -/
inductive FaultKind where
  | motionLost
  | visionLost
  | motionFrozen
  | distUnavailable
  | distParity
  | linkDown
  | linkTransferFailed
  | budgetRed
  | deadLimit
  | buildOverrun
  | tableFull
  | badMessage
  | requestRefused
  | calRefused
deriving DecidableEq, Repr

/-- The cause of DIST_UNAVAILABLE (Table 9-3). -/
inductive UnavailableCause where
  | unanswered
  | noRoom
deriving DecidableEq, Repr

/-- The item of a fault, in the form its kind gives (Table 9-3); a message kind is its identifier (R173). -/
inductive FaultItem where
  | distCause (id : Nat) (cause : UnavailableCause)
  | dist (id : Nat)
  | step (s : TransferStep)
  | track (id index : Nat)
  | message (identifier index : Nat)
  | request (identifier : Nat) (number : Option Nat)
  | param (p : Param)
deriving DecidableEq, Repr

/-- A fault as raised: its kind and the fields its kind defines (R160). -/
structure FaultReport where
  kind : FaultKind
  sequence : Option Nat
  link : Option Side
  item : Option FaultItem
deriving DecidableEq, Repr

/-- A filled capture record (Table 9-2). -/
structure CaptureRecord where
  report : FaultReport
  further : Bool
deriving DecidableEq, Repr

/-- The notice kinds, in the order of Table 9-4. -/
inductive NoticeKind where
  | modeChanged
  | fallbackChanged
  | faultCaptured
  | budgetYellow
  | linkChanged
  | distMiss
  | calClamped
  | stateChanged
deriving DecidableEq, Repr

/-- The diagnostic unit: fault summary set and notice sets in the bits of Table 10-2, the capture record (`none` when empty),
and the notice mask, whose bit is 1 for a masked kind (10.4). -/
structure DiagUnit where
  summary : BitVec 14
  capture : Option CaptureRecord
  notices : BitVec 8
  mask : BitVec 8
deriving DecidableEq, Repr

/-! ## Ports and messages sent (Chapter 10) -/

/-- A LITMAP: the committed sequence and six column maps, L rows 0 to 2, then R rows 0 to 2; a mark is set for a dark column
(R176). -/
structure LitMap where
  sequence : Nat
  maps : List (List Bool)
deriving DecidableEq, Repr

/-- The operating state (10.6). -/
inductive OperatingState where
  | config
  | run
deriving DecidableEq, Repr

/-- The fields of a STATUS (R177, Table 10-5). -/
structure StatusReport where
  operating : OperatingState
  atCommit : Bool
  header : FrameHeader
  selection : Selection
  roadClass : RoadClass
  source : CurvatureSource
  request : DriverRequest
  upL : Bool
  upR : Bool
  supplyL : Bool
  supplyR : Bool
  notices : BitVec 8
  summary : BitVec 14
deriving DecidableEq, Repr

/-- The fields of a cache-slot reply (R81). -/
structure CacheSlotData where
  valid : Bool
  tag : Option Nat
  locked : Bool
  disabled : Bool
  lastUse : Nat
deriving DecidableEq, Repr

/-- The data of a DIAG_REPLY, by target (R178). -/
inductive DiagData where
  | empty
  | track (entry : TrackEntry)
  | frameBlock (d : FrameBlockData)
  | capture (c : CaptureRecord)
  | cacheSlot (d : CacheSlotData)
  | history (entries : List HistoryEntry)
deriving DecidableEq, Repr

/-- A DIAG_REPLY: the DIAG_READ's bytes, which it repeats, and its data. -/
structure DiagReply where
  read : List Byte
  data : DiagData
deriving DecidableEq, Repr

/-- A frame in transmission: its identifier and its data bytes. -/
structure CanFrame where
  identifier : Nat
  data : List Byte
deriving DecidableEq, Repr

/-- The V-port's sending side: its controller's bus-off, the outbound slot for LITMAP, the message in transmission. -/
structure VPortState where
  busOff : Bool
  litmap : Option LitMap
  sending : Option CanFrame
deriving DecidableEq, Repr

/-- The C-port's sending side: its controller's bus-off, the outbound queue with at most one message of each kind (R174), the
message in transmission. -/
structure CPortState where
  busOff : Bool
  status : Option StatusReport
  notice : Option (BitVec 8)
  distRequest : Option Nat
  diagReply : Option DiagReply
  sending : Option CanFrame
deriving DecidableEq, Repr

end Sys2Proof.Machine
end

