-- ==== Sys2Proof/Machine/Layouts.lean ====
section
/-! DEFINITION. The codes of Table 10-2 and the layouts of everything the part sends: LITMAP, STATUS, NOTICE, DIST_REQUEST and
DIAG_REPLY on the ports, HEADER, BLOCK and END on the lamp links (10.4). -/

namespace Sys2Proof.Machine

/-! ## Codes (Table 10-2) -/

/-- The code of a class. -/
def TrackClass.code : TrackClass → Nat
  | .oncoming => 0
  | .preceding => 1
  | .sign => 2
  | .otherLight => 3

/-- The class of a code; 4 to 255 are unknown. -/
def classOfCode : Nat → Option TrackClass
  | 0 => some .oncoming
  | 1 => some .preceding
  | 2 => some .sign
  | 3 => some .otherLight
  | _ => none

/-- The code of a driver request. -/
def DriverRequest.code : DriverRequest → Nat
  | .steady .off => 0
  | .steady .low => 1
  | .steady .auto => 2
  | .steady .high => 3
  | .flash => 4

/-- The driver request of a code; 5 to 255 are unknown. -/
def requestOfCode : Nat → Option DriverRequest
  | 0 => some (.steady .off)
  | 1 => some (.steady .low)
  | 2 => some (.steady .auto)
  | 3 => some (.steady .high)
  | 4 => some .flash
  | _ => none

/-- The code of a mode. -/
def BeamMode.code : BeamMode → Nat
  | .dark => 0
  | .low => 1
  | .town => 2
  | .country => 3
  | .motorway => 4
  | .mountain => 5
  | .weather => 6
  | .full => 7

/-- The code of a fallback reason. -/
def FallbackReason.code : FallbackReason → Nat
  | .noFallback => 0
  | .motionLost => 1
  | .visionLost => 2
  | .distMissing => 3
  | .speedLow => 4
  | .daylight => 5

/-- The code of a road class. -/
def RoadClass.code : RoadClass → Nat
  | .town => 0
  | .winding => 1
  | .motorway => 2
  | .rural => 3

/-- The code of a curvature source. -/
def CurvatureSource.code : CurvatureSource → Nat
  | .noSource => 0
  | .vision => 1
  | .yaw => 2

/-- A fault kind's order in Table 9-1. -/
def FaultKind.order : FaultKind → Nat
  | .motionLost => 1
  | .visionLost => 2
  | .motionFrozen => 3
  | .distUnavailable => 4
  | .distParity => 5
  | .linkDown => 6
  | .linkTransferFailed => 7
  | .budgetRed => 8
  | .deadLimit => 9
  | .buildOverrun => 10
  | .tableFull => 11
  | .badMessage => 12
  | .requestRefused => 13
  | .calRefused => 14

/-- The fault kind set that holds one kind: bit k − 1 for the kind of order k. -/
def FaultKind.bit (k : FaultKind) : BitVec 14 := BitVec.ofNat 14 (2 ^ (k.order - 1))

/-- A notice kind's bit number: the order of Table 9-4. -/
def NoticeKind.position : NoticeKind → Nat
  | .modeChanged => 0
  | .fallbackChanged => 1
  | .faultCaptured => 2
  | .budgetYellow => 3
  | .linkChanged => 4
  | .distMiss => 5
  | .calClamped => 6
  | .stateChanged => 7

/-- The notice kind set that holds one kind. -/
def NoticeKind.bit (k : NoticeKind) : BitVec 8 := BitVec.ofNat 8 (2 ^ k.position)

/-- The code of a transfer step; no code names COMPARE (R148). -/
def stepCode : TransferStep → Nat
  | .compare => 7
  | .header => 0
  | .block k => k.val + 1
  | .finish => 6

/-- The transfer step of a code. -/
def stepOfCode : Nat → Option TransferStep
  | 0 => some .header
  | 1 => some (.block 0)
  | 2 => some (.block 1)
  | 3 => some (.block 2)
  | 4 => some (.block 3)
  | 5 => some (.block 4)
  | 6 => some .finish
  | _ => none

/-! ## Messages of the ports -/

/-- The identifiers of Table 10-1. -/
def idTracks : Nat := 0x1C0
def idTrackEnd : Nat := 0x1C1
def idLane : Nat := 0x1C2
def idScene : Nat := 0x1C3
def idLitMap : Nat := 0x1C8
def idMotion : Nat := 0x260
def idDriver : Nat := 0x261
def idCalSet : Nat := 0x268
def idCalDone : Nat := 0x269
def idConfigEnter : Nat := 0x26A
def idRestart : Nat := 0x26B
def idDistData : Nat := 0x270
def idDistDrop : Nat := 0x271
def idDistClear : Nat := 0x272
def idDistLock : Nat := 0x273
def idClearFaults : Nat := 0x274
def idNoticeMask : Nat := 0x275
def idClearNotices : Nat := 0x276
def idDiagRead : Nat := 0x277
def idStatus : Nat := 0x280
def idNotice : Nat := 0x281
def idDistRequest : Nat := 0x282
def idDiagReply : Nat := 0x283

/-- A byte whose bit 0, bit 1, … are the given marks. DESIGN CHOICE (log 23), unsafe: bits beyond the marks are sent as 0. -/
def flagByte (marks : List Bool) : Byte := putByte (marksToNat marks.reverse)

/-- The five bytes of a column map, column 0 in bit 7 of the first byte. -/
def columnMapBytes (marks : List Bool) : List Byte :=
  [0, 1, 2, 3, 4].map fun k => putByte (marksToNat ((marks.drop (8 * k)).take 8))

/-- LITMAP, 32 bytes. -/
def LitMap.bytes (m : LitMap) : List Byte := put16 m.sequence ++ m.maps.flatMap columnMapBytes

/-- STATUS, 20 bytes (Table 10-5). DESIGN CHOICE (log 23), unsafe: bits 7–3 of byte 0, bits 7–4 of byte 7 and bits 15 and 14 of the fault
summary, which no field takes, are sent as 0. -/
def StatusReport.bytes (r : StatusReport) : List Byte :=
  padTo 20
    ([flagByte [r.operating == .run, r.atCommit, r.header.distHeld]]
      ++ put16 r.header.sequence
      ++ [putByte r.header.mode.code, putByte r.header.reason.code,
          putByte r.selection.mode.code, putByte r.selection.reason.code,
          putByte (r.roadClass.code + 4 * r.source.code), putByte r.request.code]
      ++ putSigned16 r.header.bend ++ putSigned16 r.header.level
      ++ [flagByte [r.upL, r.upR, r.supplyL, r.supplyR, r.header.yellowL, r.header.yellowR,
            r.header.clampedL, r.header.clampedR],
          r.notices]
      ++ put16 r.summary.toNat)

/-- The state, age and remaining release time of a track entry's reply. -/
def trackTimesBytes (e : TrackEntry) : List Byte :=
  match e.life with
  | .live => [0] ++ put16 e.age ++ put16 0xFFFF
  | .releasing remaining => [1] ++ put16 e.age ++ put16 remaining

/-- The data of a track entry's reply. -/
def trackBytes (e : TrackEntry) : List Byte :=
  [putByte e.id, putByte e.cls.code] ++ putSigned16 e.thetaL ++ putSigned16 e.thetaR ++ putSigned16 e.phiT
    ++ put16 e.dist ++ [putByte e.conf] ++ trackTimesBytes e

/-- A holder set's bits 0 to 3: L-applied, L-incoming, R-applied, R-incoming; bits 7–4 are sent as 0 (log 23). -/
def HolderSet.byte (h : HolderSet) : Byte :=
  flagByte [h.leftApplied, h.leftIncoming, h.rightApplied, h.rightIncoming]

/-- The data of a frame block's reply. -/
def frameBlockBytes (d : FrameBlockData) : List Byte :=
  [putMark d.newest, d.holders.byte] ++ put16 d.sequence ++ d.values.map putByte

/-- The three item bytes of a capture reply: the fields of Table 9-3 in order, an identifier in two bytes. -/
def itemBytes : FaultItem → List Byte
  | .distCause id .unanswered => [putByte id, 0]
  | .distCause id .noRoom => [putByte id, 1]
  | .dist id => [putByte id]
  | .step s => [putByte (stepCode s)]
  | .track id index => [putByte id, putByte index]
  | .message identifier index => put16 identifier ++ [putByte index]
  | .request identifier none => put16 identifier
  | .request identifier (some number) => put16 identifier ++ [putByte number]
  | .param p => [putByte p.id]

/-- A link as a byte: 0 L, 1 R. -/
def Side.byte : Side → Byte
  | .left => 0
  | .right => 1

/-- The data of the capture record's reply; an absent field is sent as 0. -/
def captureBytes (c : CaptureRecord) : List Byte :=
  [putByte c.report.kind.order,
   flagByte [c.report.sequence.isSome, c.report.link.isSome, c.report.item.isSome]]
    ++ put16 (c.report.sequence.getD 0)
    ++ [(c.report.link.map Side.byte).getD 0]
    ++ padTo 3 ((c.report.item.map itemBytes).getD [])
    ++ [putMark c.further]

/-- The data of a cache slot's reply; an absent tag is 0xFF. -/
def cacheSlotBytes (d : CacheSlotData) : List Byte :=
  [putMark d.valid, putByte (d.tag.getD 0xFF), putMark d.locked, putMark d.disabled] ++ put16 d.lastUse

/-- The code of a lookup outcome: 0 HIT, 1 MISS. -/
def LookupOutcome.byte : LookupOutcome → Byte
  | .hit => 0
  | .miss => 1

/-- The data of the lookup history's reply: the entry count, then id and outcome of each entry, newest first. -/
def historyBytes (entries : List HistoryEntry) : List Byte :=
  putByte entries.length :: entries.flatMap fun e => [putByte e.id, e.outcome.byte]

/-- Byte 4 of a DIAG_REPLY, 0 for data or 1 for EMPTY, and the data after it. -/
def DiagData.bytes : DiagData → List Byte
  | .empty => [1]
  | .track entry => 0 :: trackBytes entry
  | .frameBlock d => 0 :: frameBlockBytes d
  | .capture c => 0 :: captureBytes c
  | .cacheSlot d => 0 :: cacheSlotBytes d
  | .history entries => 0 :: historyBytes entries

/-- DIAG_REPLY, 48 bytes: bytes 0 to 3 repeat the DIAG_READ. -/
def DiagReply.bytes (r : DiagReply) : List Byte := padTo 48 (r.read ++ r.data.bytes)

/-! ## Frames of the lamp links (Table 10-6) -/

/-- HEADER: the tag, the incoming frame's header fields with this lamp's own budget flags, the block map and the SAME mark (R145).
Table 10-6 says only "block map in bits 4–0". DESIGN CHOICE (log 22), unsafe: block k of the map is bit k. DESIGN CHOICE (log 23), unsafe:
bits 7–4 of the flags byte and bits 6 and 5 of the map byte, which no field takes, are sent as 0. -/
def headerFrame (lamp : Side) (t : Transfer) (h : FrameHeader) : List Byte :=
  let yellow := match lamp with | .left => h.yellowL | .right => h.yellowR
  let clamped := match lamp with | .left => h.clampedL | .right => h.clampedR
  withCrc
    ([0x10, putByte t.tag] ++ put16 h.sequence ++ [putByte h.mode.code, putByte h.reason.code,
        flagByte [h.lowOn, h.distHeld, yellow, clamped]]
      ++ putSigned16 h.level ++ putSigned16 h.bend
      ++ [flagByte [t.map.contains 0, t.map.contains 1, t.map.contains 2, t.map.contains 3, t.map.contains 4,
            false, false, t.same]])

/-- BLOCK: the tag, the sequence, the block index and the block's 24 values (R145). -/
def blockFrame (t : Transfer) (k : Fin 5) (values : List Nat) : List Byte :=
  withCrc ([0x11, putByte t.tag] ++ put16 t.sequence ++ [putByte k.val] ++ values.map putByte)

/-- END: the tag and the sequence (R145). -/
def endFrame (t : Transfer) : List Byte := withCrc ([0x12, putByte t.tag] ++ put16 t.sequence)

end Sys2Proof.Machine
end

