-- ==== Sys2Proof/Machine/Reset.lean ====
section
/-! DEFINITION. The LIMP frame and every block's state after power-on reset: Tables 2-4, 3-6, 4-3, 7-2, 8-6 and 9-5, R17, R85,
R110 and R183. -/

namespace Sys2Proof.Machine

/-- The block and column of a segment: block `k` is columns 8k to 8k + 7 of the three rows, row 0 first (5.3). -/
def blockValues (values : List Nat) (k : Fin 5) : List Nat :=
  (List.range 24).map fun i => values.getD (i / 8 * 40 + 8 * k.val + i % 8) 0

/-- All segments of a lamp at 0. -/
def darkValues : List Nat := List.replicate 120 0

/-- The LIMP frame (R130). -/
def limpFrame : Frame :=
  { header :=
      { sequence := 0, mode := .low, lowOn := true, bend := 0, level := 0, distHeld := false
        yellowL := false, yellowR := false, clampedL := false, clampedR := false, reason := .noFallback }
    left := darkValues
    right := darkValues }

/-- A frame as the frame memory holds it (R124). -/
def frameToMemory (f : Frame) : FrameMemory :=
  { header := f.header
    left := Vector.ofFn fun k => blockValues f.left k
    right := Vector.ofFn fun k => blockValues f.right k }

/-- A frame as the builder's mirror holds it (R90). -/
def frameToMirror (f : Frame) : Mirror :=
  { sequence := f.header.sequence, mode := f.header.mode, reason := f.header.reason
    bend := f.header.bend, level := f.header.level, left := f.left, right := f.right }

/-- The empty holder set. -/
def noHolders : HolderSet :=
  { leftApplied := false, leftIncoming := false, rightApplied := false, rightIncoming := false }

/-- Slot 0 after an installation: STORED with sequence 0, newest, no holders, the LIMP frame (R130). -/
def limpSlot : FrameSlot :=
  { state := .stored, newest := true, holders := noHolders, sequence := some 0, memory := frameToMemory limpFrame }

/-- A FREE slot that keeps its frame memory (R124). -/
def freeSlot (memory : FrameMemory) : FrameSlot :=
  { state := .free, newest := false, holders := noHolders, sequence := none, memory := memory }

/-- The motion unit after reset (Table 2-4). -/
def resetMotion : MotionUnit :=
  { record := none, presence := .lost, timer := none, runCount := 0, frozenRaised := false, lane := none }

/-- The mode selector after reset (Table 3-6). -/
def resetSelector : ModeSelector :=
  { request := .steady .low, lastSteady := .low, flash := .idle
    scene := { streetLit := false, fog := false, rain := false, ambient := none }
    gate := .closed, roadClass := .rural, candidate := none, count := 0 }

/-- Vision presence after reset: LOST, timer not running (R50). -/
def resetVision : VisionPresence := { present := false, timer := none }

/-- A cache slot after power-on reset (Table 4-3); its values and check bytes, which nothing reads, are 0 (log 4). -/
def resetCacheSlot : CacheSlot :=
  { valid := false, tag := none, values := darkValues, checks := [0, 0, 0], lastUse := 0 }

/-- The distribution cache after power-on reset (Table 4-3). -/
def resetCache : DistCache :=
  { slots := Vector.replicate 8 resetCacheSlot, lockLevel := 0, protect := false
    disableWay0 := false, disableWay1 := false, fill := none, request := none, failed := [], history := [] }

/-- The pattern builder after power-on reset: timer stopped, IDLE, working copy empty, mirror LIMP (R84, R85, R90, R110). -/
def resetBuilder : PatternBuilder :=
  { timer := none, phase := .idle, workingCopy := none, mirror := frameToMirror limpFrame }

/-- The frame store after power-on reset (Table 7-2, R132); the frame memory of slots 1 to 5, which nothing reads, holds the
LIMP frame (log 4). -/
def resetStore : FrameStore :=
  { slots := Vector.ofFn fun i => if i = 0 then limpSlot else freeSlot (frameToMemory limpFrame)
    busy := none, waitCommit := none, waitLinkL := none, waitLinkR := none, waitDiag := none
    lastGranted := .diag }

/-- A lamp link after power-on reset (Table 8-6), with nothing on its wire (log 5). -/
def resetLink : LampLink :=
  { state := .down, statusTimer := none, temp := none, supplyOk := none, dead := [], deadLimitFlag := false
    transfer := none, applied := none, tagCounter := 0, wire := none, waiting := none }

/-- The diagnostic unit after power-on reset: every kind masked (Table 9-5). -/
def resetDiag : DiagUnit := { summary := 0, capture := none, notices := 0, mask := 0xFF#8 }

/-- The V-port after power-on reset: outbound slot empty (R183), on the bus, transmitter free (log 5). -/
def resetVPort : VPortState := { busOff := false, litmap := none, sending := none }

/-- The STATUS queued when power-on reset ends: CONFIG, the LIMP frame's fields, an empty fault summary and an empty pending set
(R183), the selection as derived after reset. -/
def resetStatus : StatusReport :=
  { operating := .config, atCommit := false, header := limpFrame.header
    selection := { mode := .low, reason := .noFallback, flash := false }
    roadClass := .rural, source := .noSource, request := .steady .low
    upL := false, upR := false, supplyL := false, supplyR := false, notices := 0, summary := 0 }

/-- The C-port right after power-on reset ended: its STATUS was queued, and the free transmitter began it (R183, R174). -/
def resetCPort : CPortState :=
  { busOff := false, status := none, notice := none, distRequest := none, diagReply := none
    sending := some { identifier := idStatus, data := resetStatus.bytes } }

end Sys2Proof.Machine
end

