-- ==== Sys2Proof/Machine/State.lean ====
section
/-! DEFINITION. The state of the part: one field for each block of Table 2-1 and the queue of waiting commands; the reasons a
step can stop; the state right after power-on reset. -/

namespace Sys2Proof.Machine

/-- The part. `pending` is the queue of the commands that wait, first in, first out; `freeIndex` is the model's own counter,
which each use of the free choice of R76 advances (logs 1 and 2). -/
structure State where
  /-- The commands that wait; the model's own queue, not one of the part's. -/
  pending : List Instr
  /-- The operating state (10.6). -/
  operating : OperatingState
  /-- The working parameter set (10.5). -/
  working : CalSet
  /-- The committed parameter set, from the first successful CAL_DONE on (10.5). -/
  committed : Option CalSet
  /-- The track table, position 0 first (R1). -/
  tracks : List TrackEntry
  /-- The motion unit. -/
  motion : MotionUnit
  /-- The mode selector. -/
  selector : ModeSelector
  /-- The V-port's vision presence (R48). -/
  vision : VisionPresence
  /-- The distribution cache. -/
  cache : DistCache
  /-- The pattern builder. -/
  builder : PatternBuilder
  /-- The frame store and its arbiter. -/
  store : FrameStore
  /-- The L-link. -/
  linkL : LampLink
  /-- The R-link. -/
  linkR : LampLink
  /-- The diagnostic unit. -/
  diag : DiagUnit
  /-- The V-port's sending side. -/
  vPort : VPortState
  /-- The C-port's sending side. -/
  cPort : CPortState
  /-- The diagnostic reader: busy with the DIAG_READ of these bytes, or not busy (R178). -/
  reader : Option (List Byte)
  /-- The model's own counter of free choices made. -/
  freeIndex : Nat
deriving DecidableEq, Repr

/-- The reasons the model stops. Both stand for a state the spec says does not arise (R125, R124), and no run from reset reaches
one. -/
inductive Fault where
  /-- Raised by a build's start that finds no FREE slot. R125: "whenever a build starts at least one slot is FREE". Safe: the
  model stops where the spec names no behaviour. -/
  | noFreeSlot
  /-- Raised by a FETCH that finds no slot with the newest mark. R128 takes "the slot that carries the newest mark at that
  moment", and one always does. Safe: the model stops where the spec names no behaviour. -/
  | noNewestSlot
deriving DecidableEq, Repr

/-- The reasons the model refuses a command. -/
inductive Refusal where
  /-- Raised by an arm of `exec` whose command has no meaning yet; no arm raises it now. Safe. -/
  | notModelled (mnemonic : String)
deriving DecidableEq, Repr

/-- The part right after power-on reset has ended (R183), with no command waiting. -/
def State.reset : State :=
  { pending := []
    operating := .config
    working := defaultCal
    committed := none
    tracks := []
    motion := resetMotion
    selector := resetSelector
    vision := resetVision
    cache := resetCache
    builder := resetBuilder
    store := resetStore
    linkL := resetLink
    linkR := resetLink
    diag := resetDiag
    vPort := resetVPort
    cPort := resetCPort
    reader := none
    freeIndex := 0 }

end Sys2Proof.Machine
end

