-- ==== Sys2Proof/Machine/Flags.lean ====
section
/-! DEFINITION. The diagnostic unit (Chapter 9): every fault and every notice of the part goes through the two operations of
this file, `raiseFault` and `raiseNotice`. -/

namespace Sys2Proof.Machine

/-! ## Notices (R165 to R169) -/

/-- A notice kind is pending. -/
def DiagUnit.isPending (d : DiagUnit) (k : NoticeKind) : Bool := d.notices.getLsbD k.position

/-- A notice kind is masked. -/
def DiagUnit.isMasked (d : DiagUnit) (k : NoticeKind) : Bool := d.mask.getLsbD k.position

/-- Every kind that is pending and unmasked (R166). -/
def DiagUnit.unmaskedPending (d : DiagUnit) : BitVec 8 := d.notices &&& ~~~d.mask

/-- A NOTICE placed in the C-port's queue: it merges into a queued one (R166, R167). -/
def makeNotice (s : State) : State :=
  { s with cPort := { s.cPort with notice := some (s.cPort.notice.getD 0 ||| s.diag.unmaskedPending) } }

/-- A notice raised: it enters the pending set, and makes a NOTICE if it enters unmasked; a kind already pending has no effect
(R165, R166). -/
def raiseNotice (k : NoticeKind) (s : State) : State :=
  if s.diag.isPending k then s
  else if s.diag.isMasked k then
    { s with diag := { s.diag with notices := s.diag.notices ||| k.bit } }
  else makeNotice { s with diag := { s.diag with notices := s.diag.notices ||| k.bit } }

/-! ## Faults (R158 to R161) -/

/-- A fault kind is in the summary set. -/
def DiagUnit.inSummary (d : DiagUnit) (k : FaultKind) : Bool := d.summary.getLsbD (k.order - 1)

/-- A fault taken by the diagnostic unit: its kind joins the summary set (R159); it fills and locks an empty capture record and
raises FAULT_CAPTURED, or sets the further flag of a filled one (R161). -/
def raiseFault (f : FaultReport) (s : State) : State :=
  match s.diag.capture with
  | none =>
    raiseNotice .faultCaptured
      { s with diag := { s.diag with
          summary := s.diag.summary ||| f.kind.bit, capture := some { report := f, further := false } } }
  | some c =>
    { s with diag := { s.diag with
        summary := s.diag.summary ||| f.kind.bit, capture := some { c with further := true } } }

/-- A fault that carries no field. -/
def plainFault (k : FaultKind) : FaultReport := { kind := k, sequence := none, link := none, item := none }

/-- A fault that carries an item only. -/
def itemFault (k : FaultKind) (i : FaultItem) : FaultReport :=
  { kind := k, sequence := none, link := none, item := some i }

/-- A fault that carries a link, and perhaps an item. -/
def linkFault (k : FaultKind) (x : Side) (i : Option FaultItem) : FaultReport :=
  { kind := k, sequence := none, link := some x, item := i }

/-- BAD_MESSAGE: the message's identifier and the record index (R173). -/
def badMessage (identifier index : Nat) : FaultReport := itemFault .badMessage (.message identifier index)

/-- REQUEST_REFUSED: the refused request and its number, if it has one (Table 9-3). -/
def requestRefused (identifier : Nat) (number : Option Nat) : FaultReport :=
  itemFault .requestRefused (.request identifier number)

end Sys2Proof.Machine
end

