-- ==== Sys2Proof/Machine/Operands.lean ====
section
/-! DEFINITION. What a command's operands say: the length checks of R173 and the fields of every message the part receives
(Table 10-1, 10.4), and the check and the fields of every link frame it receives (R138, Table 10-6). -/

namespace Sys2Proof.Machine

/-! ## TRACKS -/

/-- A track record as received, before clamping (Table 10-3). -/
structure TrackRecord where
  id : Nat
  classCode : Nat
  thetaL : Int
  thetaR : Int
  phiT : Int
  dist : Nat
  conf : Nat
deriving DecidableEq, Repr

/-- The length of a TRACKS with `n` records: the shortest CAN FD length that holds 4 + 10 × n bytes (R173). -/
def tracksLength : Nat → Option Nat
  | 1 => some 16
  | 2 => some 24
  | 3 => some 48
  | 4 => some 48
  | 5 => some 64
  | 6 => some 64
  | _ => none

/-- The record count of a TRACKS. -/
def tracksCount (data : List Byte) : Nat := byteAt data 0

/-- The length check of a TRACKS: the record count lies from 1 to 6 and the length is its length (R173). -/
def tracksLengthOk (data : List Byte) : Bool := tracksLength (tracksCount data) == some data.length

/-- The track record at byte `p` of a TRACKS (Table 10-3). -/
def trackRecordAt (data : List Byte) (p : Nat) : TrackRecord :=
  { id := byteAt data p
    classCode := byteAt data (p + 1)
    thetaL := signed16 data (p + 2)
    thetaR := signed16 data (p + 4)
    phiT := twosComplement 12 (unsigned32 data (p + 6) / 2 ^ 20)
    dist := unsigned32 data (p + 6) / 2 ^ 7 % 2 ^ 13
    conf := unsigned32 data (p + 6) % 2 ^ 7 }

/-- The records of a TRACKS, each with its record index (R3). -/
def tracksRecords (data : List Byte) : List (Nat × TrackRecord) :=
  (List.range (tracksCount data)).map fun i => (i, trackRecordAt data (4 + 10 * i))

/-! ## The other messages: one length each (Table 10-1) -/

/-- The data length is the message's (R173). -/
def lengthIs (n : Nat) (data : List Byte) : Bool := data.length == n

/-- LANE's fields, clamped (R30). -/
def laneFields (data : List Byte) : LaneRecord :=
  { kappa := clamp (-20000) 20000 (signed16 data 0), conf := min (byteAt data 2) 100, age := 0 }

/-- SCENE's fields, the ambient clamped (R46). -/
def sceneFields (data : List Byte) : SceneRecord :=
  { streetLit := bitAt data 0 0, fog := bitAt data 0 1, rain := bitAt data 0 2
    ambient := some (min (unsigned16 data 1) 10000) }

/-- MOTION's fields, clamped (R24, Table 10-4). -/
def motionFields (data : List Byte) : MotionRecord :=
  { v := min (unsigned16 data 0) 4000
    omega := clamp (-10000) 10000 (signed16 data 2)
    pCab := clamp (-500) 500 (signed16 data 4)
    pCh := clamp (-500) 500 (signed16 data 6)
    reverse := bitAt data 8 4
    alive := byteAt data 8 % 16 }

/-- DIST_DATA's 60 values. -/
def distValues (data : List Byte) : List Nat := (List.range 60).map fun i => byteAt data (2 + i)

/-- CLEAR_FAULTS's kind set: bytes 0 and 1; the two bits above the fourteen kinds name none. -/
def faultSetField (data : List Byte) : BitVec 14 := BitVec.ofNat 14 (unsigned16 data 0)

/-- A notice kind set in byte 0. -/
def noticeSetField (data : List Byte) : BitVec 8 := BitVec.ofNat 8 (byteAt data 0)

/-! ## DIAG_READ (R178) -/

/-- A DIAG_READ's target, with its parameters. -/
inductive DiagTarget where
  | trackEntry (position : Nat)
  | frameBlock (slot lamp block : Nat)
  | captureRecord
  | cacheSlot (set way : Nat)
  | lookupHistory
deriving DecidableEq, Repr

/-- The target of a DIAG_READ, or none for an unknown target code. -/
def diagTarget (data : List Byte) : Option DiagTarget :=
  match byteAt data 0 with
  | 0 => some (.trackEntry (byteAt data 1))
  | 1 => some (.frameBlock (byteAt data 1) (byteAt data 2) (byteAt data 3))
  | 2 => some .captureRecord
  | 3 => some (.cacheSlot (byteAt data 1) (byteAt data 2))
  | 4 => some .lookupHistory
  | _ => none

/-- A lamp's code in a DIAG_READ: 0 for L and 1 for R. -/
def sideOfCode : Nat → Option Side
  | 0 => some .left
  | 1 => some .right
  | _ => none

/-! ## Link frames (R138, Table 10-6) -/

/-- A valid link frame from the lamp. A `step` that no code names is `none`. -/
inductive LampFrame where
  | lampState (temp : Int) (supplyOk : Bool) (dead : List Nat)
  | fetch (appliedSeq : Nat) (fullFlag noneFlag : Bool)
  | ack (tag : Nat) (step : Option TransferStep)
  | retry (tag : Nat) (step : Option TransferStep)
  | quit (tag : Nat)
deriving DecidableEq, Repr

/-- The frame's CRC-16 agrees with its contents: its last two bytes are the CRC of the bytes before them (R138). -/
def crcAgrees (bytes : List Byte) : Bool :=
  2 < bytes.length && bytes == withCrc (bytes.take (bytes.length - 2))

/-- The body of a link frame: what stands between its kind byte and its CRC. -/
def frameBody (bytes : List Byte) : List Byte := (bytes.take (bytes.length - 2)).drop 1

/-- A link frame's body by its kind, or none when the kind is no lamp-to-part kind or the length does not agree with it
(R138). -/
def lampFrameOf (kind : Nat) (body : List Byte) : Option LampFrame :=
  match kind with
  | 0x20 =>
    if byteAt body 3 ≤ 16 ∧ 4 ≤ body.length ∧ body.length = 4 + byteAt body 3 then
      some (.lampState (signed16 body 0) (bitAt body 2 0) ((body.drop 4).map (·.toNat)))
    else none
  | 0x21 =>
    if body.length = 3 then some (.fetch (unsigned16 body 0) (bitAt body 2 0) (bitAt body 2 1)) else none
  | 0x22 => if body.length = 2 then some (.ack (byteAt body 0 % 16) (stepOfCode (byteAt body 1))) else none
  | 0x23 => if body.length = 2 then some (.retry (byteAt body 0 % 16) (stepOfCode (byteAt body 1))) else none
  | 0x24 => if body.length = 1 then some (.quit (byteAt body 0)) else none
  | _ => none

/-- The valid frame the bytes of a link frame are, or none when R138 discards them. -/
def lampFrame (bytes : List Byte) : Option LampFrame :=
  if crcAgrees bytes then lampFrameOf (byteAt bytes 0) (frameBody bytes) else none

end Sys2Proof.Machine
end

