-- ==== Sys2Proof/Machine/Ops.lean ====
section
/-! DEFINITION. The operations the commands share: which parameter set a block reads, receiving a message (R173), placing a
message and beginning transmissions (R174), and the access to a link by its side. -/

namespace Sys2Proof.Machine

/-- What a command answers. -/
abbrev Answer := Host.Outcome State Fault Refusal

/-- The committed set, which builds read (R91); in a state with none, which no build reaches, the working set. -/
def committedCal (s : State) : CalSet := s.committed.getD s.working

/-- The set that a block reads which uses the committed set in RUN and the working set in CONFIG (R23, R42, R140). -/
def activeCal (s : State) : CalSet :=
  match s.operating with
  | .run => committedCal s
  | .config => s.working

/-! ## Sending (R174) -/

/-- The V-port begins its queued LITMAP when its controller is on the bus and its transmitter free. -/
def beginVPort (p : VPortState) : VPortState :=
  if p.busOff || p.sending.isSome then p
  else
    match p.litmap with
    | none => p
    | some m => { p with litmap := none, sending := some { identifier := idLitMap, data := m.bytes } }

/-- The C-port begins the queued message with the lowest identifier, STATUS, NOTICE, DIST_REQUEST, DIAG_REPLY in turn, when its
controller is on the bus and its transmitter free. -/
def beginCPort (p : CPortState) : CPortState :=
  if p.busOff || p.sending.isSome then p
  else
    match p.status, p.notice, p.distRequest, p.diagReply with
    | some m, _, _, _ => { p with status := none, sending := some { identifier := idStatus, data := m.bytes } }
    | none, some kinds, _, _ => { p with notice := none, sending := some { identifier := idNotice, data := [kinds] } }
    | none, none, some id, _ =>
      { p with distRequest := none, sending := some { identifier := idDistRequest, data := [putByte id] } }
    | none, none, none, some m =>
      { p with diagReply := none, sending := some { identifier := idDiagReply, data := m.bytes } }
    | none, none, none, none => p

/-- Both ports begin what they can; the diagnostic reader stops being busy when its reply begins (R174, R178). -/
def beginTransmissions (s : State) : State :=
  { s with
    vPort := beginVPort s.vPort
    cPort := beginCPort s.cPort
    reader := if s.cPort.diagReply.isSome && (beginCPort s.cPort).diagReply.isNone then none else s.reader }

/-- A command's end: what it placed in an outbound queue begins if the transmitter is free. -/
def done (s : State) : Answer := .next (beginTransmissions s)

/-- A DIST_REQUEST placed in the queue; it replaces a queued one (R174). -/
def placeDistRequest (id : Nat) (s : State) : State := { s with cPort := { s.cPort with distRequest := some id } }

/-- An unsent DIST_REQUEST for this id withdrawn from the queue (R77, R82). -/
def withdrawDistRequest (id : Nat) (s : State) : State :=
  if s.cPort.distRequest = some id then { s with cPort := { s.cPort with distRequest := none } } else s

/-- The diagnostic reader's reply placed in the queue: it repeats the bytes of the read that the reader is busy with (R178). -/
def placeReply (d : DiagData) (s : State) : State :=
  { s with cPort := { s.cPort with diagReply := some { read := s.reader.getD [], data := d } } }

/-! ## Receiving (R173) -/

/-- A frame received on the C-port: nothing while the port is bus-off (R175); BAD_MESSAGE on a wrong length; else the owner's
handling. -/
def receiveC (identifier : Nat) (lengthOk : Bool) (s : State) (handle : State → Answer) : Answer :=
  if s.cPort.busOff then .next s
  else if lengthOk then handle s
  else done (raiseFault (badMessage identifier 0) s)

/-- An accepted V-port message refreshes vision presence (R48). -/
def refreshVision (s : State) : State := { s with vision := { present := true, timer := some 0 } }

/-- A frame received on the V-port: as `receiveC`, and vision presence is refreshed at acceptance, before the hand-off. -/
def receiveV (identifier : Nat) (lengthOk : Bool) (s : State) (handle : State → Answer) : Answer :=
  if s.vPort.busOff then .next s
  else if lengthOk then handle (refreshVision s)
  else done (raiseFault (badMessage identifier 0) s)

/-! ## The two links -/

/-- The link of a side. -/
def State.link (s : State) : Side → LampLink
  | .left => s.linkL
  | .right => s.linkR

/-- The state with the link of a side replaced. -/
def State.setLink (s : State) (x : Side) (l : LampLink) : State :=
  match x with
  | .left => { s with linkL := l }
  | .right => { s with linkR := l }

/-- The requester of a link. -/
def linkRequester : Side → Requester
  | .left => .linkL
  | .right => .linkR

end Sys2Proof.Machine
end

