-- ==== Sys2Proof/Machine/Store.lean ====
section
/-! DEFINITION. The frame store (Chapter 7): the slot table's operations, the frame memory, the installation of the LIMP frame,
and the arbiter of the one access port. -/

namespace Sys2Proof.Machine

/-! ## Slots and holders (R124 to R129) -/

/-- The slot numbers, lowest first. -/
def slotNumbers : List (Fin 6) := [0, 1, 2, 3, 4, 5]

/-- The slot of a number. -/
def FrameStore.slot (st : FrameStore) (i : Fin 6) : FrameSlot := st.slots.get i

/-- The store with one slot replaced. -/
def FrameStore.setSlot (st : FrameStore) (i : Fin 6) (sl : FrameSlot) : FrameStore :=
  { st with slots := st.slots.set i sl }

/-- The store with every slot changed by one function. -/
def FrameStore.mapSlots (st : FrameStore) (f : FrameSlot → FrameSlot) : FrameStore :=
  { st with slots := Vector.ofFn fun i => f (st.slot i) }

/-- The slot with the newest mark. -/
def FrameStore.newest (st : FrameStore) : Option (Fin 6) := slotNumbers.find? fun i => (st.slot i).newest

/-- The lowest-numbered FREE slot (R126). -/
def FrameStore.lowestFree (st : FrameStore) : Option (Fin 6) :=
  slotNumbers.find? fun i => (st.slot i).state == .free

/-- The two roles each lamp link can hold a slot under (Table 7-1). -/
inductive LinkRole where
  | applied
  | incoming
deriving DecidableEq, Repr

/-- A role of a link stands in a holder set. -/
def HolderSet.has (h : HolderSet) : Side → LinkRole → Bool
  | .left, .applied => h.leftApplied
  | .left, .incoming => h.leftIncoming
  | .right, .applied => h.rightApplied
  | .right, .incoming => h.rightIncoming

/-- A holder set with a role of a link put in or taken out. -/
def HolderSet.put (h : HolderSet) (x : Side) (r : LinkRole) (b : Bool) : HolderSet :=
  match x, r with
  | .left, .applied => { h with leftApplied := b }
  | .left, .incoming => { h with leftIncoming := b }
  | .right, .applied => { h with rightApplied := b }
  | .right, .incoming => { h with rightIncoming := b }

/-- A STORED slot with no newest mark and no holder becomes FREE and loses its sequence (R125). -/
def freeIfUnused (sl : FrameSlot) : FrameSlot :=
  if sl.state = .stored ∧ sl.newest = false ∧ sl.holders = noHolders then
    { sl with state := .free, sequence := none }
  else sl

/-- A role leaves a slot's holder set, if it stands in it; R125 applies to the slot (R129). -/
def dropRole (x : Side) (r : LinkRole) (sl : FrameSlot) : FrameSlot :=
  if sl.holders.has x r then freeIfUnused { sl with holders := sl.holders.put x r false } else sl

/-- A promote's effect on one slot: X-incoming becomes X-applied; X-applied leaves any other slot (R129). -/
def promoteSlot (x : Side) (sl : FrameSlot) : FrameSlot :=
  if sl.holders.has x .incoming then
    { sl with holders := (sl.holders.put x .incoming false).put x .applied true }
  else dropRole x .applied sl

/-- Release incoming (R129). -/
def FrameStore.releaseIncoming (st : FrameStore) (x : Side) : FrameStore := st.mapSlots (dropRole x .incoming)

/-- Release applied (R129). -/
def FrameStore.releaseApplied (st : FrameStore) (x : Side) : FrameStore := st.mapSlots (dropRole x .applied)

/-- Promote (R129). -/
def FrameStore.promote (st : FrameStore) (x : Side) : FrameStore := st.mapSlots (promoteSlot x)

/-- Take of slot `n`: X-incoming leaves any slot it stands in and joins slot `n`, in one step (R128). -/
def FrameStore.take (st : FrameStore) (x : Side) (n : Fin 6) : FrameStore :=
  let dropped := st.releaseIncoming x
  let sl := dropped.slot n
  dropped.setSlot n { sl with holders := sl.holders.put x .incoming true }

/-- A build claims a slot: it becomes BUILDING (R126). -/
def FrameStore.claim (st : FrameStore) (i : Fin 6) : FrameStore :=
  st.setSlot i { st.slot i with state := .building }

/-- The slot that carried the newest mark loses it, and becomes FREE if it is unheld (R127). -/
def loseNewest (sl : FrameSlot) : FrameSlot := if sl.newest then freeIfUnused { sl with newest := false } else sl

/-- The commit's move of the newest mark to slot `i` (R127). -/
def FrameStore.commitSlot (st : FrameStore) (i : Fin 6) (sequence : Nat) : FrameStore :=
  (st.mapSlots loseNewest).setSlot i
    { st.slot i with state := .stored, newest := true, holders := noHolders, sequence := some sequence }

/-! ## Frame memory (R124, R131) -/

/-- The values of a block of a lamp. -/
def FrameMemory.block (m : FrameMemory) (lamp : Side) (k : Fin 5) : List Nat :=
  match lamp with
  | .left => m.left.get k
  | .right => m.right.get k

/-- A block write. -/
def FrameMemory.writeBlock (m : FrameMemory) (lamp : Side) (k : Fin 5) (values : List Nat) : FrameMemory :=
  match lamp with
  | .left => { m with left := m.left.set k values }
  | .right => { m with right := m.right.set k values }

/-- The store with the frame memory of one slot changed. -/
def FrameStore.writeMemory (st : FrameStore) (i : Fin 6) (f : FrameMemory → FrameMemory) : FrameStore :=
  st.setSlot i { st.slot i with memory := f (st.slot i).memory }

/-- A lamp's half of a frame. -/
def Frame.values (f : Frame) : Side → List Nat
  | .left => f.left
  | .right => f.right

/-- The header of the newest frame; in a state with no newest slot, which does not arise, the LIMP frame's. -/
def newestHeader (st : FrameStore) : FrameHeader :=
  match st.newest with
  | some n => (st.slot n).memory.header
  | none => limpFrame.header

/-! ## The arbiter (R132, R133) -/

/-- A requester's waiting request. -/
def FrameStore.waiting (st : FrameStore) : Requester → Option PortAccess
  | .commit => st.waitCommit
  | .linkL => st.waitLinkL
  | .linkR => st.waitLinkR
  | .diag => st.waitDiag

/-- The store with a requester's waiting request replaced. -/
def FrameStore.setWaiting (st : FrameStore) (r : Requester) (a : Option PortAccess) : FrameStore :=
  match r with
  | .commit => { st with waitCommit := a }
  | .linkL => { st with waitLinkL := a }
  | .linkR => { st with waitLinkR := a }
  | .diag => { st with waitDiag := a }

/-- The fixed cycle COMMIT, LINK-L, LINK-R, DIAG, from the requester after the given one on (R132). -/
def cycleAfter : Requester → List Requester
  | .commit => [.linkL, .linkR, .diag, .commit]
  | .linkL => [.linkR, .diag, .commit, .linkL]
  | .linkR => [.diag, .commit, .linkL, .linkR]
  | .diag => [.commit, .linkL, .linkR, .diag]

/-- The first waiting requester in the cycle after the last-granted one, with its request (R132). -/
def FrameStore.nextGrant (st : FrameStore) : Option (Requester × PortAccess) :=
  (cycleAfter st.lastGranted).findSome? fun r => (st.waiting r).map fun a => (r, a)

/-- What a diagnostic read finds at its grant: the fields of Table 7-4 when the slot is STORED, nothing otherwise (R134). -/
def diagFind (st : FrameStore) (i : Fin 6) (lamp : Side) (k : Fin 5) : Option FrameBlockData :=
  if (st.slot i).state = .stored then
    some { newest := (st.slot i).newest, holders := (st.slot i).holders
           sequence := (st.slot i).sequence.getD 0, values := (st.slot i).memory.block lamp k }
  else none

/-- A grant: the request leaves its place and the requester becomes the last-granted one. A DIAG grant whose slot is FREE or
BUILDING makes no access: the reply is EMPTY and the port stays free (R134, log 12). -/
def grant (r : Requester) (a : PortAccess) (s : State) : State :=
  let st := { s.store.setWaiting r none with lastGranted := r }
  match a with
  | .diagRead i lamp k =>
    match diagFind st i lamp k with
    | some d => { s with store := { st with busy := some { requester := r, access := a, wanted := true, found := some d } } }
    | none => placeReply .empty { s with store := st }
  | _ => { s with store := { st with busy := some { requester := r, access := a, wanted := true, found := none } } }

/-- At a free port the next grant is made, if a request waits. -/
def grantNext (s : State) : State :=
  if s.store.busy.isSome then s
  else
    match s.store.nextGrant with
    | none => s
    | some (r, a) => grant r a s

/-- The arbiter at a free port: one grant, and one more when the first was a DIAG grant that made no access. -/
def arbitrate (s : State) : State := grantNext (grantNext s)

/-- A request for a grant: granted at once at an idle port, else it waits (R132). -/
def requestPort (r : Requester) (a : PortAccess) (s : State) : State :=
  arbitrate { s with store := s.store.setWaiting r (some a) }

/-- The access under way completes: the port becomes free and the arbiter makes the next grant (R132). -/
def releasePort (s : State) : State := arbitrate { s with store := { s.store with busy := none } }

/-- A requester's access under way, if it has one. -/
def FrameStore.accessOf (st : FrameStore) (r : Requester) : Option PortUse :=
  match st.busy with
  | some u => if u.requester = r then some u else none
  | none => none

/-- A link's waiting request is withdrawn and the result of its access under way will be discarded (R133, R137, R147). -/
def FrameStore.withdrawLink (st : FrameStore) (x : Side) : FrameStore :=
  let waiting := st.setWaiting (linkRequester x) none
  match st.busy with
  | some u =>
    if u.requester = linkRequester x then { waiting with busy := some { u with wanted := false } } else waiting
  | none => waiting

/-! ## The LIMP frame's installation (R130, R133) -/

/-- The installation's one step on the store: the access under way is ended, a diagnostic read's being put back as waiting; every
other waiting request is withdrawn; slot 0 holds the LIMP frame, newest and unheld; slots 1 to 5 are FREE. -/
def FrameStore.installLimp (st : FrameStore) : FrameStore :=
  { st with
    slots := Vector.ofFn fun i => if i = 0 then limpSlot else freeSlot (st.slot i).memory
    busy := none
    waitCommit := none
    waitLinkL := none
    waitLinkR := none
    waitDiag := ((st.accessOf .diag).map (·.access)).or st.waitDiag }

end Sys2Proof.Machine
end

