-- ==== Sys2Proof/Machine/Derived.lean ====
section
/-! DEFINITION. The values no block stores, derived whenever they are asked for: active entries and light count (R14, R15), lane
usability and the curvature selection (R31, R32), daylight and the selection (R47, R56, R57), and STATUS (R177). -/

namespace Sys2Proof.Machine

/-! ## Track table -/

/-- An entry is active (R14): LIVE or RELEASING, which every entry is, confident enough, and not OTHER_LIGHT. -/
def TrackEntry.isActive (confMin : Nat) (e : TrackEntry) : Bool :=
  decide (confMin ≤ e.conf) && (e.cls == .oncoming || e.cls == .preceding || e.cls == .sign)

/-- A snapshot's copies of the active entries, in position order (R16). -/
def activeCopies (confMin : Nat) (tracks : List TrackEntry) : List TrackCopy :=
  (tracks.filter (·.isActive confMin)).map fun e =>
    { cls := e.cls, thetaL := e.thetaL, thetaR := e.thetaR, phiT := e.phiT, dist := e.dist, age := e.age }

/-- The light count: the LIVE OTHER_LIGHT entries of enough confidence (R15). -/
def lightCount (confMin : Nat) (tracks : List TrackEntry) : Nat :=
  (tracks.filter fun e => e.life == .live && e.cls == .otherLight && decide (confMin ≤ e.conf)).length

/-! ## Motion unit -/

/-- The lane record is usable (R31). -/
def LaneRecord.usable (laneConfMin : Nat) (l : LaneRecord) : Bool :=
  decide (l.age < Config.laneAgeLimit) && decide (laneConfMin ≤ l.conf)

/-- The yaw-derived curvature (R32): ω × 17453 / v rounded to nearest, clamped. -/
def yawCurvature (m : MotionRecord) : Int := clamp (-20000) 20000 (roundDiv (m.omega * 17453) m.v)

/-- Cases 2 and 3 of Table 2-3: the yaw rate with presence FRESH and v at least 200, else none. -/
def yawSelection (u : MotionUnit) : Int × CurvatureSource :=
  match u.presence, u.record with
  | .fresh, some m => if Config.yawSpeedMin ≤ m.v then (yawCurvature m, .yaw) else (0, .noSource)
  | _, _ => (0, .noSource)

/-- The curvature selection: the first case of Table 2-3 that applies (R32). -/
def curvature (laneConfMin : Nat) (u : MotionUnit) : Int × CurvatureSource :=
  match u.lane with
  | some l => if l.usable laneConfMin then (l.kappa, .vision) else yawSelection u
  | none => yawSelection u

/-! ## Mode selector -/

/-- Daylight: the ambient is known and at least day_lux (R47). -/
def daylight (dayLux : Nat) (scene : SceneRecord) : Bool := scene.ambient.any fun lux => decide (dayLux ≤ lux)

/-- The shading mode of a road class (R57). -/
def RoadClass.mode : RoadClass → BeamMode
  | .town => .town
  | .rural => .country
  | .motorway => .motorway
  | .winding => .mountain

/-- The mode and reason under AUTO: the first condition of Table 3-5 that holds, else a shading mode (R57). -/
def autoSelection (dayLux : Nat) (motionLost visionLost : Bool) (m : ModeSelector) : BeamMode × FallbackReason :=
  if motionLost then (.low, .motionLost)
  else if visionLost then (.low, .visionLost)
  else if m.gate = .closed then (.low, .speedLow)
  else if daylight dayLux m.scene then (.low, .daylight)
  else if m.scene.fog || m.scene.rain then (.weather, .noFallback)
  else (m.roadClass.mode, .noFallback)

/-- The selection, from the driver request first (Table 3-4, R56). -/
def selection (s : State) : Selection :=
  match s.selector.request with
  | .steady .off => { mode := .dark, reason := .noFallback, flash := false }
  | .steady .low => { mode := .low, reason := .noFallback, flash := false }
  | .steady .high => { mode := .full, reason := .noFallback, flash := false }
  | .flash => { mode := .full, reason := .noFallback, flash := true }
  | .steady .auto =>
    let auto := autoSelection ((activeCal s).nat .dayLux) (s.motion.presence == .lost) (!s.vision.present) s.selector
    { mode := auto.1, reason := auto.2, flash := false }

/-! ## STATUS (R177) -/

/-- A link's supply-ok flag as STATUS reports it: clear for a DOWN link. -/
def reportedSupply (l : LampLink) : Bool := l.state == .up && l.supplyOk == some true

/-- A STATUS with the given frame and selection fields; the rest is as it stands. -/
def statusWith (atCommit : Bool) (header : FrameHeader) (sel : Selection) (roadClass : RoadClass)
    (source : CurvatureSource) (request : DriverRequest) (s : State) : StatusReport :=
  { operating := s.operating, atCommit := atCommit, header := header, selection := sel
    roadClass := roadClass, source := source, request := request
    upL := s.linkL.state == .up, upR := s.linkR.state == .up
    supplyL := reportedSupply s.linkL, supplyR := reportedSupply s.linkR
    notices := s.diag.notices, summary := s.diag.summary }

/-- A STATUS placed in the C-port's queue, replacing an unsent one (R174). -/
def placeStatus (r : StatusReport) (s : State) : State := { s with cPort := { s.cPort with status := some r } }

/-- The STATUS of a commit: the committed frame's fields and the build's snapshot's selection (R93, R177). -/
def commitStatus (header : FrameHeader) (snap : Snapshot) (s : State) : State :=
  placeStatus (statusWith true header snap.selection snap.roadClass snap.source snap.request s) s

/-- The STATUS of a change of operating state: the newest frame's fields and the selection derived now (R33, R58, R177). -/
def changeStatus (s : State) : State :=
  placeStatus
    (statusWith false (newestHeader s.store) (selection s) s.selector.roadClass
      (curvature ((activeCal s).nat .laneConfMin) s.motion).2 s.selector.request s) s

end Sys2Proof.Machine
end

