-- ==== Sys2Proof/Machine/Cache.lean ====
section
/-! DEFINITION. The distribution cache (Chapter 4): the lookup a build makes, requests, fills and placement, and the commands
DIST_DATA, DIST_DROP, DIST_CLEAR, DIST_LOCK and REQUEST_TIMER_EXPIRY. -/

namespace Sys2Proof.Machine

/-! ## Slots (R63, R64) -/

/-- The index of the slot of a set and way. -/
def cacheIndex (set : Nat) (way : Bool) : Fin 8 :=
  ⟨set % 4 * 2 + way.toNat, by have := Nat.mod_lt set (show 0 < 4 by decide); cases way <;> simp <;> omega⟩

/-- The slot of id `d`'s set in a way (`true` is way 1). -/
def DistCache.slot (c : DistCache) (d : Nat) (way : Bool) : CacheSlot := c.slots.get (cacheIndex d way)

/-- The cache with that slot replaced. -/
def DistCache.setSlot (c : DistCache) (d : Nat) (way : Bool) (sl : CacheSlot) : DistCache :=
  { c with slots := c.slots.set (cacheIndex d way) sl }

/-- A way's slots are locked under a lock level (R64). -/
def lockedUnder (level : Nat) (way : Bool) : Bool :=
  match way with
  | false => decide (1 ≤ level)
  | true => decide (2 ≤ level)

/-- A way's slots are locked. -/
def DistCache.locked (c : DistCache) (way : Bool) : Bool := lockedUnder c.lockLevel way

/-- A way is disabled. -/
def DistCache.disabled (c : DistCache) : Bool → Bool
  | false => c.disableWay0
  | true => c.disableWay1

/-- A slot made invalid with its tag absent. -/
def dropSlot (sl : CacheSlot) : CacheSlot := { sl with valid := false, tag := none }

/-- The row check bytes of 120 values: for each row the exclusive-or of its 40 values (Table 4-2). -/
def rowChecks (values : List Nat) : List Nat :=
  [0, 1, 2].map fun r => ((List.range 40).map fun c => values.getD (r * 40 + c) 0).foldl (fun x v => x ^^^ v) 0

/-! ## The failed-id set (R72) -/

/-- An id joins the failed-id set; the set is kept as its members in rising order. -/
def failedAdd (d : Nat) (failed : List Nat) : List Nat :=
  (List.range 32).filter fun i => i == d || failed.contains i

/-- An id leaves the failed-id set. -/
def failedRemove (d : Nat) (failed : List Nat) : List Nat := failed.filter (· != d)

/-! ## Lookup (R65 to R70) -/

/-- The way of a slot that a lookup of id `d` hits: valid with tag `d` in an enabled way (R65). -/
def DistCache.hitWay (c : DistCache) (d : Nat) : Option Bool :=
  [false, true].find? fun w => !c.disabled w && (c.slot d w).valid && (c.slot d w).tag == some d

/-- A lookup's entry at the front of the history (R68). -/
def addHistory (d : Nat) (o : LookupOutcome) (c : DistCache) : DistCache :=
  { c with history := ({ id := d, outcome := o } :: c.history).take Config.historyLength }

/-- A new request for id `d`: the record, and a DIST_REQUEST in the queue (R70). -/
def newRequest (d : Nat) (s : State) : State :=
  placeDistRequest d { s with cache := { s.cache with request := some { id := d, sends := 1, timer := 0 } } }

/-- A miss's effect on the request state: the first case of R67's table that applies. -/
def missRequest (d : Nat) (s : State) : State :=
  if s.cache.failed.contains d then s
  else
    match s.cache.request with
    | some r => if r.id = d then s else newRequest d s
    | none => newRequest d s

/-- A miss: request state, history entry, notice DIST_MISS (R67, R68). -/
def lookupMiss (d : Nat) (s : State) : State :=
  let requested := missRequest d s
  raiseNotice .distMiss { requested with cache := addHistory d .miss requested.cache }

/-- A hit whose row check bytes agree: the working copy is replaced whole, the last-use mark is the build's sequence (R65). -/
def lookupHit (d sequence : Nat) (way : Bool) (s : State) : State :=
  let sl := s.cache.slot d way
  { s with
    cache := addHistory d .hit (s.cache.setSlot d way { sl with lastUse := sequence })
    builder := { s.builder with workingCopy := some sl.values } }

/-- A parity error: the slot is invalid and keeps its tag only while locked; DIST_PARITY with the build's sequence (R66). -/
def lookupParity (d sequence : Nat) (way : Bool) (s : State) : State :=
  let sl := s.cache.slot d way
  let invalid := if s.cache.locked way then { sl with valid := false } else dropSlot sl
  raiseFault { kind := .distParity, sequence := some sequence, link := none, item := some (.dist d) }
    { s with cache := s.cache.setSlot d way invalid }

/-- One lookup for id `d` by the build of a sequence (R65). -/
def lookup (d sequence : Nat) (s : State) : State × LookupOutcome :=
  match s.cache.hitWay d with
  | none => (lookupMiss d s, .miss)
  | some w =>
    if rowChecks (s.cache.slot d w).values = (s.cache.slot d w).checks then (lookupHit d sequence w s, .hit)
    else (lookupMiss d (lookupParity d sequence w s), .miss)

/-- The mode_dist parameter of a mode; LOW and DARK need no distribution (R62). -/
def modeDist : BeamMode → Option Param
  | .dark => none
  | .low => none
  | .town => some .modeDistTown
  | .country => some .modeDistCountry
  | .motorway => some .modeDistMotorway
  | .mountain => some .modeDistMountain
  | .weather => some .modeDistWeather
  | .full => some .modeDistFull

/-- The snapshot's lookup for a mode, made only when the mode needs a distribution (R62, R88). -/
def lookupFor (mode : BeamMode) (sequence : Nat) (s : State) : State × Option LookupOutcome :=
  match modeDist mode with
  | none => (s, none)
  | some p =>
    let r := lookup ((committedCal s).nat p) sequence s
    (r.1, some r.2)

/-! ## Placement (R76, R77) -/

/-- The way whose slot a completed fill of id `d` matches: enabled, tag `d`, and valid or locked (R76, step 1). -/
def DistCache.matchWay (c : DistCache) (d : Nat) : Option Bool :=
  [false, true].find? fun w =>
    !c.disabled w && (c.slot d w).tag == some d && ((c.slot d w).valid || c.locked w)

/-- A way of the set may give up its slot: unlocked and enabled (R76, step 2). -/
def DistCache.candidate (c : DistCache) (way : Bool) : Bool := !c.locked way && !c.disabled way

/-- How R76's step 2 chooses the victim. -/
inductive VictimChoice where
  | noRoom
  | way (w : Bool)
  | free
deriving DecidableEq, Repr

/-- The victim's choice: an invalid candidate first, way 0 before way 1; the one candidate; free when both are valid (R76). -/
def DistCache.victimChoice (c : DistCache) (d : Nat) : VictimChoice :=
  match c.candidate false, c.candidate true with
  | false, false => .noRoom
  | true, false => .way false
  | false, true => .way true
  | true, true =>
    if !(c.slot d false).valid then .way false
    else if !(c.slot d true).valid then .way true
    else .free

/-- The slot a fill writes: its values, check bytes, valid with tag `d`, last-use mark 0 (R76). -/
def filledSlot (d : Nat) (values : List Nat) : CacheSlot :=
  { valid := true, tag := some d, values := values, checks := rowChecks values, lastUse := 0 }

/-- What a written fill does beyond its slot: the id leaves the failed-id set, and an outstanding request for it is cancelled with
its unsent DIST_REQUEST (R77). -/
def fillWritten (d : Nat) (s : State) : State :=
  let removed := { s with cache := { s.cache with failed := failedRemove d s.cache.failed } }
  if s.cache.request.any (·.id == d) then
    withdrawDistRequest d { removed with cache := { removed.cache with request := none } }
  else removed

/-- A fill written by step 2 into a way: a slot of the set in a disabled way whose tag is `d` is made invalid (R76). -/
def writeVictim (d : Nat) (values : List Nat) (way : Bool) (c : DistCache) : DistCache :=
  let written := c.setSlot d way (filledSlot d values)
  if c.disabled (!way) && (c.slot d (!way)).tag == some d then
    written.setSlot d (!way) (dropSlot (c.slot d (!way)))
  else written

/-- A fill that finds no room: discarded, the id joins the failed-id set, DIST_UNAVAILABLE with cause NO_ROOM, and an outstanding
request for the id is dropped (R76, step 3); a DIST_REQUEST still queued stays (log 13). -/
def fillNoRoom (d : Nat) (s : State) : State :=
  raiseFault (itemFault .distUnavailable (.distCause d .noRoom))
    { s with cache := { s.cache with
        failed := failedAdd d s.cache.failed
        request := if s.cache.request.any (·.id == d) then none else s.cache.request } }

/-- A completed fill of id `d` placed by the first step of R76 that applies. When both candidates are valid the way is the free
choice, which advances `freeIndex` (log 1). -/
def placeFill (d : Nat) (values : List Nat) (s : State) : State :=
  match s.cache.matchWay d with
  | some w => fillWritten d { s with cache := s.cache.setSlot d w (filledSlot d values) }
  | none =>
    match s.cache.victimChoice d with
    | .noRoom => fillNoRoom d s
    | .way w => fillWritten d { s with cache := writeVictim d values w s.cache }
    | .free =>
      fillWritten d
        { s with
          cache := writeVictim d values (Config.victimWay s.freeIndex) s.cache
          freeIndex := s.freeIndex + 1 }

/-! ## The cache's commands -/

/-- A DIST_DATA part 1: it completes an open fill of its id, or is discarded (R75). -/
def completeFill (d : Nat) (values : List Nat) (s : State) : State :=
  match s.cache.fill with
  | some f =>
    if f.id = d then placeFill d (f.values ++ values) { s with cache := { s.cache with fill := none } }
    else raiseFault (badMessage idDistData 1) s
  | none => raiseFault (badMessage idDistData 1) s

/-- DIST_DATA (R74, R75). -/
def execDistData (data : List Byte) (s : State) : Answer :=
  receiveC idDistData (lengthIs 64 data) s fun s =>
    let part := byteAt data 0
    let d := byteAt data 1
    if 1 < part then done (raiseFault (badMessage idDistData 0) s)
    else if 31 < d then done (raiseFault (badMessage idDistData part) s)
    else if part = 0 then
      done { s with cache := { s.cache with fill := some { id := d, values := distValues data } } }
    else done (completeFill d (distValues data) s)

/-- The way, of the set of id `d`, of a slot whose tag is `d`, disabled or not (R78). -/
def DistCache.tagWay (c : DistCache) (d : Nat) : Option Bool :=
  [false, true].find? fun w => (c.slot d w).tag == some d

/-- DIST_DROP (R78). -/
def execDistDrop (data : List Byte) (s : State) : Answer :=
  receiveC idDistDrop (lengthIs 1 data) s fun s =>
    let d := byteAt data 0
    if 31 < d then done (raiseFault (badMessage idDistDrop 0) s)
    else
      match s.cache.tagWay d with
      | none => done s
      | some w =>
        if s.cache.locked w && s.cache.protect then done (raiseFault (requestRefused idDistDrop (some d)) s)
        else done { s with cache := s.cache.setSlot d w (dropSlot (s.cache.slot d w)) }

/-- The way of a slot index. -/
def wayOfIndex (i : Fin 8) : Bool := i.val % 2 == 1

/-- The cache with every slot changed by a function of its way and itself. -/
def DistCache.mapSlots (c : DistCache) (f : Bool → CacheSlot → CacheSlot) : DistCache :=
  { c with slots := Vector.ofFn fun i => f (wayOfIndex i) (c.slots.get i) }

/-- DIST_CLEAR (R79): every slot, or with protect on every unlocked slot, is made invalid with its tag absent. -/
def execDistClear (data : List Byte) (s : State) : Answer :=
  receiveC idDistClear (lengthIs 0 data) s fun s =>
    let spare := fun w => s.cache.locked w && s.cache.protect
    done { s with cache := s.cache.mapSlots fun w sl => if spare w then sl else dropSlot sl }

/-- The cache under the settings of a DIST_LOCK: level 3 taken as 2, and every invalid slot not locked under the new level loses
its tag (R80). -/
def applyLock (level : Nat) (protect way0 way1 : Bool) (c : DistCache) : DistCache :=
  let set := { c with lockLevel := min level 2, protect := protect, disableWay0 := way0, disableWay1 := way1 }
  set.mapSlots fun w sl => if !sl.valid && !lockedUnder (min level 2) w then { sl with tag := none } else sl

/-- DIST_LOCK (R80): bits 1–0 the level, bit 2 protect, bits 3 and 4 the ways disabled. -/
def execDistLock (data : List Byte) (s : State) : Answer :=
  receiveC idDistLock (lengthIs 1 data) s fun s =>
    let cache := applyLock (byteAt data 0 % 4) (bitAt data 0 2) (bitAt data 0 3) (bitAt data 0 4) s.cache
    done { s with cache := cache }

/-- REQUEST_TIMER_EXPIRY (R71): a further send, or the request is given up after the third. Without an outstanding request nothing
happens (log 3). -/
def execRequestTimerExpiry (s : State) : Answer :=
  match s.cache.request with
  | none => .next s
  | some r =>
    if r.sends < Config.requestSends then
      done (placeDistRequest r.id
        { s with cache := { s.cache with request := some { r with sends := r.sends + 1, timer := 0 } } })
    else
      done (raiseFault (itemFault .distUnavailable (.distCause r.id .unanswered))
        { s with cache := { s.cache with request := none, failed := failedAdd r.id s.cache.failed } })

end Sys2Proof.Machine
end

