-- ==== Sys2Proof/Machine/Geometry.lean ====
section
/-! DEFINITION. The first half of a build's compute: preview, bend and levelling (R34 to R37), and the shading zones (R97 to
R109), from the snapshot and the committed calibration alone. -/

namespace Sys2Proof.Machine

/-! ## Preview, bend and levelling (R34 to R37) -/

/-- The speed of the preview distance: the recorded v while presence is FRESH or STALE, else 0 (R34). -/
def previewSpeed (snap : Snapshot) : Nat :=
  match snap.presence, snap.motion with
  | .lost, _ => 0
  | _, none => 0
  | _, some m => m.v

/-- The preview distance in cm (R34). -/
def previewDistance (tPrev : Nat) (snap : Snapshot) : Nat := previewSpeed snap * tPrev / 1000

/-- The preview angle ψ in cdeg (R34). -/
def previewAngle (tPrev : Nat) (snap : Snapshot) : Int :=
  roundDiv (snap.kappa * previewDistance tPrev snap) 34907

/-- The bend target (R35). -/
def bendTarget (c : CalSet) (snap : Snapshot) : Int :=
  if snap.motion.any (·.reverse) then 0
  else
    clamp (-(c.get .bendMax)) (c.get .bendMax)
      (roundDiv (previewAngle (c.nat .tPrev) snap * c.get .bendGain) 256)

/-- One bend step from the previous bend toward the target (R36). -/
def stepBend (bendStep previous target : Int) : Int :=
  if bendStep < target - previous then previous + bendStep
  else if target - previous < -bendStep then previous - bendStep
  else target

/-- The build's new bend (R36). -/
def newBend (c : CalSet) (snap : Snapshot) : Int :=
  stepBend (c.get .bendStep) snap.previous.bend (bendTarget c snap)

/-- The build's levelling target (R37). -/
def newLevel (c : CalSet) (snap : Snapshot) : Int :=
  match snap.presence, snap.motion with
  | .fresh, some m => clamp (-300) 300 (c.get .levelOffset - m.pCh)
  | _, _ => snap.previous.level

/-! ## From camera angles to lamp angles (R98 to R103) -/

/-- The working distance (R98). -/
def workingDistance (dFar dist : Nat) : Nat := if dist = 0 then dFar else if dist < 30 then 30 else dist

/-- Parallax of an offset at a working distance: rounded to nearest, clamped (R99, R100). -/
def parallax (offset : Int) (dw : Nat) : Int := clamp (-500) 500 (roundDiv (offset * 3667) (64 * dw))

/-- The lamp's offset from the camera (R99). -/
def lampOffset (c : CalSet) : Side → Int
  | .left => c.get .lampOffsetL
  | .right => c.get .lampOffsetR

/-- The horizontal margin of a class (R101); OTHER_LIGHT is never active and needs none. -/
def marginH (c : CalSet) : TrackClass → Nat
  | .oncoming => c.nat .marginHOncoming
  | .preceding => c.nat .marginHPreceding
  | .sign => c.nat .marginHSign
  | .otherLight => 0

/-- The vertical margin of a class (R101). -/
def marginV (c : CalSet) : TrackClass → Nat
  | .oncoming => c.nat .marginVOncoming
  | .preceding => c.nat .marginVPreceding
  | .sign => c.nat .marginVSign
  | .otherLight => 0

/-- The horizontal margin with its growth while the entry goes unreported (R102). -/
def grownMargin (c : CalSet) (t : TrackCopy) : Nat :=
  if t.age ≤ c.nat .coastStart then marginH c t.cls
  else marginH c t.cls + c.nat .coastGrow * ((t.age - c.nat .coastStart) / 20)

/-- The zone's left and right extent on a lamp (R99, R103). -/
def zoneExtent (c : CalSet) (lamp : Side) (t : TrackCopy) : Int × Int :=
  let delta := parallax (lampOffset c lamp) (workingDistance (c.nat .dFar) t.dist)
  (t.thetaL - delta - grownMargin c t, t.thetaR - delta + grownMargin c t)

/-- The cab pitch of a snapshot's motion record, 0 when it is absent (R38, R100). -/
def cabPitch (snap : Snapshot) : Int := (snap.motion.map (·.pCab)).getD 0

/-- The zone's top φ'' (R100, R103). -/
def zoneTop (c : CalSet) (snap : Snapshot) (t : TrackCopy) : Int :=
  t.phiT - cabPitch snap + parallax (c.get .camHeight) (workingDistance (c.nat .dFar) t.dist) + marginV c t.cls

/-! ## From lamp angles to segments (R104 to R108) -/

/-- The column of a lamp-frame angle, cut at the matrix (R104). -/
def columnOf (z : Int) : Nat := (clamp 0 39 (floorDiv (z + 1000) 50)).toNat

/-- The first and last column of an extent, or none when it lies wholly outside the matrix (R104). -/
def zoneColumns (extent : Int × Int) : Option (Nat × Nat) :=
  if extent.2 < -1000 ∨ 1000 ≤ extent.1 then none else some (columnOf extent.1, columnOf extent.2)

/-- The lower edge of a row (Table 5-5). -/
def rowEdge (c : CalSet) : Nat → Int
  | 0 => c.get .rowEdge0
  | 1 => c.get .rowEdge1
  | _ => c.get .rowEdge2

/-- The rows of a zone: those whose lower edge is less than its top (R105). -/
def zoneRows (c : CalSet) (top : Int) : List Nat := [0, 1, 2].filter fun r => decide (rowEdge c r < top)

/-- A live zone's level (R106). -/
def zoneLevel (c : CalSet) : TrackClass → Nat
  | .sign => c.nat .signLevel
  | _ => c.nat .shadeLevel

/-- A class whose zones have shoulders (R107). -/
def hasShoulders (cls : TrackClass) : Bool := cls == .oncoming || cls == .preceding

/-- The zone of an entry on a lamp, or none when it is empty there (R106, R107). -/
def zoneOf (c : CalSet) (snap : Snapshot) (lamp : Side) (t : TrackCopy) : Option Zone :=
  match zoneColumns (zoneExtent c lamp t), zoneRows c (zoneTop c snap t) with
  | none, _ => none
  | some _, [] => none
  | some (cL, cR), rows =>
    some
      { cls := t.cls, cL := cL, cR := cR, rows := rows, level := zoneLevel c t.cls
        leftShoulder := if hasShoulders t.cls && decide (1 ≤ cL) then some (cL - 1) else none
        rightShoulder := if hasShoulders t.cls && decide (cR ≤ 38) then some (cR + 1) else none }

/-- A shading mode (Table 4-1 of the Introduction). -/
def BeamMode.shading : BeamMode → Bool
  | .town => true
  | .country => true
  | .motorway => true
  | .mountain => true
  | .weather => true
  | .dark => false
  | .low => false
  | .full => false

/-- The zones of a lamp in the position order of the tracks, empty zones left out; none unless the committed mode is a shading
mode (R97, R108). -/
def lampZones (c : CalSet) (snap : Snapshot) (mode : BeamMode) (lamp : Side) : List Zone :=
  if mode.shading then snap.tracks.filterMap (zoneOf c snap lamp) else []

end Sys2Proof.Machine
end

