-- ==== Sys2Proof/Machine/Intensity.lean ====
section
/-! DEFINITION. The second half of a build's compute: the committed mode (R111), the base values (R112, R113), zones, dead
segments, the rise limit and the drive budget (R114 to R122), and the frame (R123). -/

namespace Sys2Proof.Machine

/-! ## The committed mode (R111) -/

/-- A mode that draws light from a distribution (R62). -/
def BeamMode.needsDist : BeamMode → Bool
  | .dark => false
  | .low => false
  | _ => true

/-- What Table 6-2 fixes: committed mode, committed reason, distribution_held. -/
structure CommittedMode where
  mode : BeamMode
  reason : FallbackReason
  held : Bool
deriving DecidableEq, Repr

/-- Table 6-2: the first row that applies. -/
def committedMode (snap : Snapshot) (workingCopy : Option (List Nat)) : CommittedMode :=
  if snap.selection.mode.needsDist = false then
    { mode := snap.selection.mode, reason := snap.selection.reason, held := false }
  else if snap.lookup = some .hit then
    { mode := snap.selection.mode, reason := snap.selection.reason, held := false }
  else if workingCopy.isSome then
    { mode := snap.selection.mode, reason := snap.selection.reason, held := true }
  else { mode := .low, reason := .distMissing, held := false }

/-! ## Base values (R112, R113) -/

/-- A lamp's template at a row and column: the working copy for the R lamp, mirrored within its row for the L lamp; a column
outside 0 to 39 reads as 0 (R112, R113). -/
def template (dist : List Nat) (lamp : Side) (r : Nat) (j : Int) : Nat :=
  if 0 ≤ j ∧ j < 40 then
    match lamp with
    | .right => dist.getD (r * 40 + j.toNat) 0
    | .left => dist.getD (r * 40 + (39 - j.toNat)) 0
  else 0

/-- A base value: the template shifted by the bend with linear interpolation (R113). -/
def shiftedValue (dist : List Nat) (lamp : Side) (bend : Int) (r c : Nat) : Nat :=
  let k := floorDiv bend 50
  let f := (bend - 50 * k).toNat
  let j := (c : Int) - k
  (template dist lamp r j * (50 - f) + template dist lamp r (j - 1) * f + 25) / 50

/-- A segment's base value; 0 in a build whose committed mode is LOW or DARK (R112). -/
def baseValue (mode : BeamMode) (workingCopy : Option (List Nat)) (lamp : Side) (bend : Int) (r c : Nat) : Nat :=
  if mode.needsDist then shiftedValue (workingCopy.getD []) lamp bend r c else 0

/-! ## Zones, dead segments and the rise limit (R114 to R118) -/

/-- A segment lies inside a zone (R106, R114). -/
def Zone.covers (z : Zone) (r c : Nat) : Bool := decide (z.cL ≤ c) && decide (c ≤ z.cR) && z.rows.contains r

/-- A segment lies in one of a zone's shoulders (R107, R115). -/
def Zone.shoulders (z : Zone) (r c : Nat) : Bool :=
  (z.leftShoulder == some c || z.rightShoulder == some c) && z.rows.contains r

/-- One zone's and its shoulders' lowering of a segment's value, the shoulder bound formed from the base (R114, R115). -/
def applyZone (shoulder base r c : Nat) (z : Zone) (v : Nat) : Nat :=
  let inZone := if z.covers r c then min v z.level else v
  if z.shoulders r c then min inZone (base * shoulder / 256) else inZone

/-- A segment's value after every zone and shoulder of its lamp (R114, R115). -/
def applyZones (shoulder base r c : Nat) (zones : List Zone) : Nat :=
  zones.foldl (fun v z => applyZone shoulder base r c z v) base

/-- A dead segment is 0 (R116). -/
def applyDead (dead : List Nat) (segment v : Nat) : Nat := if dead.contains segment then 0 else v

/-- The rise limit, bypassed under the flash mark (R117, R118). -/
def applyRise (flash : Bool) (rise p n : Nat) : Nat := if flash then n else if n ≤ p then n else min n (p + rise)

/-- The row of a segment (5.3). -/
def segmentRow (i : Nat) : Nat := i / 40

/-- The column of a segment (5.3). -/
def segmentColumn (i : Nat) : Nat := i % 40

/-- What the stages before the budget need of one lamp. -/
structure LampInputs where
  lamp : Side
  mode : BeamMode
  workingCopy : Option (List Nat)
  bend : Int
  zones : List Zone
  shoulder : Nat
  dead : List Nat
  flash : Bool
  rise : Nat
  previous : List Nat

/-- A segment's value after the rise limit (R112 to R118). -/
def segmentValue (x : LampInputs) (i : Nat) : Nat :=
  let base := baseValue x.mode x.workingCopy x.lamp x.bend (segmentRow i) (segmentColumn i)
  applyRise x.flash x.rise (x.previous.getD i 0)
    (applyDead x.dead i (applyZones x.shoulder base (segmentRow i) (segmentColumn i) x.zones))

/-- A lamp's 120 values after the rise limit. -/
def risenValues (x : LampInputs) : List Nat := (List.range 120).map (segmentValue x)

/-! ## The drive budget (R119 to R122) -/

/-- A lamp's effective budget (R119). -/
def effectiveBudget (c : CalSet) (l : LampSnapshot) : Nat :=
  match l.up, l.temp with
  | true, some t =>
    (max (c.get .budgetMin) (c.get .budget - c.get .derate * max 0 (t - c.get .tKnee))).toNat
  | _, _ => c.nat .budget

/-- A lamp's band (R120). -/
def budgetBand (yellowBand beff sum : Nat) : BudgetBand :=
  if sum = 0 ∨ (sum : Int) ≤ (beff : Int) - yellowBand then .green else if sum ≤ beff then .yellow else .red

/-- A lamp's values after the budget stage: scaled in the RED band, else unchanged (R120 to R122). -/
def budgetValues (band : BudgetBand) (beff : Nat) (values : List Nat) : List Nat :=
  match band with
  | .red => values.map fun v => v * beff / values.sum
  | _ => values

/-- One lamp's result: its band and its final values. -/
structure LampResult where
  band : BudgetBand
  values : List Nat
deriving DecidableEq, Repr

/-! ## The frame (R123) -/

/-- A lamp's status in the snapshot. -/
def Snapshot.lampStatus (snap : Snapshot) : Side → LampSnapshot
  | .left => snap.lampL
  | .right => snap.lampR

/-- A lamp's half of the previous frame. -/
def Mirror.values (m : Mirror) : Side → List Nat
  | .left => m.left
  | .right => m.right

/-- The inputs of one lamp's stages. -/
def lampInputs (c : CalSet) (snap : Snapshot) (workingCopy : Option (List Nat)) (lamp : Side) : LampInputs :=
  let mode := (committedMode snap workingCopy).mode
  { lamp := lamp, mode := mode, workingCopy := workingCopy, bend := newBend c snap
    zones := lampZones c snap mode lamp, shoulder := c.nat .shoulder
    dead := (snap.lampStatus lamp).dead, flash := snap.selection.flash, rise := c.nat .rise
    previous := snap.previous.values lamp }

/-- One lamp's result. -/
def lampResult (c : CalSet) (snap : Snapshot) (workingCopy : Option (List Nat)) (lamp : Side) : LampResult :=
  let risen := risenValues (lampInputs c snap workingCopy lamp)
  let beff := effectiveBudget c (snap.lampStatus lamp)
  let band := budgetBand (c.nat .yellowBand) beff risen.sum
  { band := band, values := budgetValues band beff risen }

/-- The build's frame: both lamps' values and the header of Table 6-3. -/
def buildFrame (c : CalSet) (snap : Snapshot) (workingCopy : Option (List Nat)) (sequence : Nat) : Frame :=
  let fixed := committedMode snap workingCopy
  let l := lampResult c snap workingCopy .left
  let r := lampResult c snap workingCopy .right
  { header :=
      { sequence := sequence, mode := fixed.mode, lowOn := fixed.mode != .dark
        bend := newBend c snap, level := newLevel c snap, distHeld := fixed.held
        yellowL := l.band == .yellow, yellowR := r.band == .yellow
        clampedL := l.band == .red, clampedR := r.band == .red, reason := fixed.reason }
    left := l.values
    right := r.values }

end Sys2Proof.Machine
end

