-- ==== Sys2Proof/Machine/Builder.lean ====
section
/-! DEFINITION. The pattern builder's commands (Chapters 5 and 6): BUILD_TIMER_EXPIRY, COMPUTE_COMPLETE,
COMMIT_BLOCK_WRITE_DONE, COMMIT_HEADER_WRITE_DONE. -/

namespace Sys2Proof.Machine

/-! ## Build start (R87, R88) -/

/-- The sequence after a sequence: plus 1, with 65535 followed by 1 (R87). -/
def nextSequence (n : Nat) : Nat := if n = 65535 then 1 else n + 1

/-- What a link hands to a snapshot (R141). -/
def lampSnapshot (l : LampLink) : LampSnapshot := { up := l.state == .up, temp := l.temp, dead := l.dead }

/-- The snapshot of Table 5-1, given the outcome of its lookup. -/
def takeSnapshot (outcome : Option LookupOutcome) (s : State) : Snapshot :=
  let c := committedCal s
  let curve := curvature (c.nat .laneConfMin) s.motion
  { tracks := activeCopies (c.nat .confMin) s.tracks
    motion := s.motion.record, presence := s.motion.presence, kappa := curve.1, source := curve.2
    selection := selection s, request := s.selector.request, roadClass := s.selector.roadClass
    lookup := outcome
    lampL := lampSnapshot s.linkL, lampR := lampSnapshot s.linkR
    previous := s.builder.mirror }

/-- A build's start into a FREE slot: sequence, slot, snapshot; the builder becomes COMPUTING (R87). -/
def startBuild (slot : Fin 6) (s : State) : State :=
  let sequence := nextSequence s.builder.mirror.sequence
  let claimed := { s with store := s.store.claim slot }
  let r := lookupFor (selection claimed).mode sequence claimed
  let build := { sequence := sequence, slot := slot, snapshot := takeSnapshot r.2 claimed }
  { r.1 with builder := { r.1.builder with phase := .computing build } }

/-- A fault that carries a build's sequence (R160). -/
def buildFault (k : FaultKind) (sequence : Nat) (lamp : Option Side) : FaultReport :=
  { kind := k, sequence := some sequence, link := lamp, item := none }

/-- The build in flight, if there is one (R85). -/
def BuilderPhase.build : BuilderPhase → Option Build
  | .idle => none
  | .computing b => some b
  | .committing b _ _ => some b

/-- BUILD_TIMER_EXPIRY (R84 to R87): the timer restarts; a build starts, or the expiry is skipped with BUILD_OVERRUN. With the timer
stopped nothing happens (log 3). -/
def execBuildTimerExpiry (s : State) : Answer :=
  match s.builder.timer with
  | none => .next s
  | some _ =>
    let restarted := { s with builder := { s.builder with timer := some 0 } }
    match s.builder.phase.build with
    | some b => done (raiseFault (buildFault .buildOverrun b.sequence none) restarted)
    | none =>
      match s.store.lowestFree with
      | none => .fault .noFreeSlot
      | some slot => done (startBuild slot restarted)

/-! ## Compute (R91, R121, R122) -/

/-- What a lamp's band raises: BUDGET_YELLOW, or BUDGET_RED with the build's sequence and the lamp (R121, R122). -/
def raiseBand (sequence : Nat) (lamp : Side) (band : BudgetBand) (s : State) : State :=
  match band with
  | .green => s
  | .yellow => raiseNotice .budgetYellow s
  | .red => raiseFault (buildFault .budgetRed sequence (some lamp)) s

/-- The commit's writes in order: L blocks 0 to 4, R blocks 0 to 4, the header (R92). -/
def commitWrite : Nat → PortAccess
  | 0 => .blockWrite .left 0
  | 1 => .blockWrite .left 1
  | 2 => .blockWrite .left 2
  | 3 => .blockWrite .left 3
  | 4 => .blockWrite .left 4
  | 5 => .blockWrite .right 0
  | 6 => .blockWrite .right 1
  | 7 => .blockWrite .right 2
  | 8 => .blockWrite .right 3
  | 9 => .blockWrite .right 4
  | _ => .headerWrite

/-- COMPUTE_COMPLETE (R91): the frame is fixed, the bands raise what they raise, L before R, and the builder becomes COMMITTING and
requests its first write. With no compute in progress nothing happens (log 3). -/
def execComputeComplete (s : State) : Answer :=
  match s.builder.phase with
  | .computing b =>
    let c := committedCal s
    let frame := buildFrame c b.snapshot s.builder.workingCopy b.sequence
    let l := (lampResult c b.snapshot s.builder.workingCopy .left).band
    let r := (lampResult c b.snapshot s.builder.workingCopy .right).band
    let raised := raiseBand b.sequence .right r (raiseBand b.sequence .left l s)
    done (requestPort .commit (commitWrite 0)
      { raised with builder := { raised.builder with phase := .committing b frame 0 } })
  | _ => .next s

/-! ## Commit (R92, R93) -/

/-- COMMIT_BLOCK_WRITE_DONE (R92): the block's 24 values stand in the build's slot, and the builder requests its next write. With no
block write of the commit under way nothing happens (log 3). -/
def execCommitBlockWriteDone (s : State) : Answer :=
  match s.store.accessOf .commit, s.builder.phase with
  | some { access := .blockWrite lamp k, .. }, .committing b frame n =>
    let values := blockValues (frame.values lamp) k
    let written := s.store.writeMemory b.slot fun m => m.writeBlock lamp k values
    done (requestPort .commit (commitWrite (n + 1))
      (releasePort
        { s with store := written, builder := { s.builder with phase := .committing b frame (n + 1) } }))
  | _, _ => .next s

/-- The dark columns of a lamp's row, column 0 first: the mark is set when the committed value is below 32 (R176). -/
def darkColumns (values : List Nat) (row : Nat) : List Bool :=
  (List.range 40).map fun c => decide (values.getD (row * 40 + c) 0 < Config.litThreshold)

/-- The LITMAP of a committed frame (R176). -/
def litMapOf (f : Frame) : LitMap :=
  { sequence := f.header.sequence
    maps := [0, 1, 2].map (darkColumns f.left) ++ [0, 1, 2].map (darkColumns f.right) }

/-- The notices of a commit: MODE_CHANGED, then FALLBACK_CHANGED, against the frame newest at the build's start (R170). -/
def commitNotices (h : FrameHeader) (previous : Mirror) (s : State) : State :=
  let mode := if h.mode = previous.mode then s else raiseNotice .modeChanged s
  if h.reason = previous.reason then mode else raiseNotice .fallbackChanged mode

/-- COMMIT_HEADER_WRITE_DONE (R93, R127): the slot is STORED and newest, the previous newest is freed if unheld, the mirror takes the
frame, the builder is IDLE, the commit's notices are raised, LITMAP and STATUS are placed, and the port is free. With no header write
under way nothing happens (log 3). -/
def execCommitHeaderWriteDone (s : State) : Answer :=
  match s.store.accessOf .commit, s.builder.phase with
  | some { access := .headerWrite, .. }, .committing b frame _ =>
    let store := (s.store.writeMemory b.slot fun m => { m with header := frame.header }).commitSlot b.slot b.sequence
    let committed :=
      { s with store := store, builder := { s.builder with phase := .idle, mirror := frameToMirror frame } }
    let noticed := commitNotices frame.header b.snapshot.previous committed
    let mapped := { noticed with vPort := { noticed.vPort with litmap := some (litMapOf frame) } }
    done (releasePort (commitStatus frame.header b.snapshot mapped))
  | _, _ => .next s

end Sys2Proof.Machine
end

