-- ==== Sys2Proof/Machine/Diagnostics.lean ====
section
/-! DEFINITION. The diagnostic unit's and the diagnostic reader's commands (Chapter 9, R21, R81, R134, R164, R178): CLEAR_FAULTS,
CLEAR_NOTICES, NOTICE_MASK, DIAG_BLOCK_READ_DONE and the five DIAG_READ commands. -/

namespace Sys2Proof.Machine

/-! ## Clearing and masking -/

/-- CLEAR_FAULTS (R163): the listed kinds leave the summary; the capture record is emptied if the release flag is set. -/
def execClearFaults (data : List Byte) (s : State) : Answer :=
  receiveC idClearFaults (lengthIs 3 data) s fun s =>
    done { s with diag := { s.diag with
      summary := s.diag.summary &&& ~~~(faultSetField data)
      capture := if bitAt data 2 0 then none else s.diag.capture } }

/-- CLEAR_NOTICES (R168): the listed kinds leave the pending set. -/
def execClearNotices (data : List Byte) (s : State) : Answer :=
  receiveC idClearNotices (lengthIs 1 data) s fun s =>
    done { s with diag := { s.diag with notices := s.diag.notices &&& ~~~(noticeSetField data) } }

/-- A new mask unmasks a kind that is pending and was masked before (R169). -/
def unmasksPending (d : DiagUnit) (mask : BitVec 8) : Bool := d.notices &&& d.mask &&& ~~~mask != 0

/-- NOTICE_MASK (R169): the mask is replaced; a NOTICE is made if it unmasks a pending kind. -/
def execNoticeMask (data : List Byte) (s : State) : Answer :=
  receiveC idNoticeMask (lengthIs 1 data) s fun s =>
    let masked := { s with diag := { s.diag with mask := noticeSetField data } }
    if unmasksPending s.diag (noticeSetField data) then done (makeNotice masked) else done masked

/-! ## DIAG_READ (R178) -/

/-- A DIAG_READ: ignored while the reader is busy (log 10); an unknown target code discards it with BAD_MESSAGE; else the owner
takes it. -/
def acceptRead (data : List Byte) (s : State) (own : DiagTarget → State → Answer) : Answer :=
  receiveC idDiagRead (lengthIs 4 data) s fun s =>
    if s.reader.isSome then .next s
    else
      match diagTarget data with
      | none => done (raiseFault (badMessage idDiagRead 0) s)
      | some target => own target s

/-- A read answered from the owner's state as it stands: the reader is busy with it, and its reply is queued. -/
def answerRead (data : List Byte) (d : DiagData) (s : State) : State := placeReply d { s with reader := some data }

/-- The reply to a track entry's read (R21). -/
def trackReply (position : Nat) (s : State) : DiagData :=
  match s.tracks[position]? with
  | some e => .track e
  | none => .empty

/-- DIAG_READ of a track entry (R21). A read of another row's target is no term of this row (`Instr.wellFormed`). -/
def execDiagReadTrackEntry (data : List Byte) (s : State) : Answer :=
  acceptRead data s fun target s =>
    match target with
    | .trackEntry position => done (answerRead data (trackReply position s) s)
    | _ => .next s

/-- The diagnostic request of a frame block's target, or none for a slot above 5, an unknown lamp code or a block above 4 (R134). -/
def frameBlockRequest (slot lamp block : Nat) : Option PortAccess :=
  match sideOfCode lamp with
  | none => none
  | some x => if h : slot < 6 ∧ block < 5 then some (.diagRead ⟨slot, h.1⟩ x ⟨block, h.2⟩) else none

/-- DIAG_READ of a frame block (R134): an invalid target is answered EMPTY; else the reader requests a grant as DIAG. -/
def execDiagReadFrameBlock (data : List Byte) (s : State) : Answer :=
  acceptRead data s fun target s =>
    match target with
    | .frameBlock slot lamp block =>
      match frameBlockRequest slot lamp block with
      | none => done (answerRead data .empty s)
      | some access => done (requestPort .diag access { s with reader := some data })
    | _ => .next s

/-- The reply to a capture record's read (R164). -/
def captureReply (s : State) : DiagData :=
  match s.diag.capture with
  | some c => .capture c
  | none => .empty

/-- DIAG_READ of the capture record (R164). -/
def execDiagReadCaptureRecord (data : List Byte) (s : State) : Answer :=
  acceptRead data s fun target s =>
    match target with
    | .captureRecord => done (answerRead data (captureReply s) s)
    | _ => .next s

/-- The reply to a cache slot's read: EMPTY for a set above 3 or a way above 1 (R81). -/
def cacheSlotReply (set way : Nat) (s : State) : DiagData :=
  if set ≤ 3 ∧ way ≤ 1 then
    let w := way == 1
    let sl := s.cache.slot set w
    .cacheSlot { valid := sl.valid, tag := sl.tag, locked := s.cache.locked w
                 disabled := s.cache.disabled w, lastUse := sl.lastUse }
  else .empty

/-- DIAG_READ of a cache slot (R81). -/
def execDiagReadCacheSlot (data : List Byte) (s : State) : Answer :=
  acceptRead data s fun target s =>
    match target with
    | .cacheSlot set way => done (answerRead data (cacheSlotReply set way s) s)
    | _ => .next s

/-- The reply to the lookup history's read (R81). -/
def historyReply (s : State) : DiagData :=
  match s.cache.history with
  | [] => .empty
  | entries => .history entries

/-- DIAG_READ of the lookup history (R81). -/
def execDiagReadLookupHistory (data : List Byte) (s : State) : Answer :=
  acceptRead data s fun target s =>
    match target with
    | .lookupHistory => done (answerRead data (historyReply s) s)
    | _ => .next s

/-- The reply of a diagnostic block read: what its grant found (R134). -/
def foundReply (found : Option FrameBlockData) : DiagData :=
  match found with
  | some d => .frameBlock d
  | none => .empty

/-- DIAG_BLOCK_READ_DONE (R134): the reply is queued and the port is free. With no diagnostic read under way nothing happens
(log 3). -/
def execDiagBlockReadDone (s : State) : Answer :=
  match s.store.accessOf .diag with
  | some u => done (releasePort (placeReply (foundReply u.found) s))
  | none => .next s

end Sys2Proof.Machine
end

