-- ==== Sys2Proof/Machine/Links.lean ====
section
/-! DEFINITION. The lamp links' commands (Chapter 8): LINK_HEADER_READ_DONE, LINK_BLOCK_READ_DONE, BLOCK_COMPARE_DONE,
LINK_FRAME_SEND_END, LAMP_STATE, STATUS_TIMER_EXPIRY, FETCH, ACK, RETRY, REPLY_TIMEOUT, QUIT. -/

namespace Sys2Proof.Machine

/-! ## Sending and attempts (R146) -/

/-- A frame handed to the wire: it is sent, or it waits for the frame on the wire to end (R146). -/
def LampLink.send (l : LampLink) (bytes : List Byte) : LampLink :=
  match l.wire with
  | none => { l with wire := some bytes }
  | some _ => { l with waiting := some bytes }

/-- A frame of link `x` handed to its wire. -/
def sendOnLink (x : Side) (bytes : List Byte) (s : State) : State := s.setLink x ((s.link x).send bytes)

/-- What the link has in hand for an attempt is given up: its waiting request, the result of its access under way, and a frame that
waits for the wire (R147, R148, R151; log 9). -/
def dropAttempt (x : Side) (s : State) : State :=
  let l := s.link x
  { s with store := s.store.withdrawLink x }.setLink x { l with waiting := none }

/-- An attempt of a step of a transfer begins: the reply timer starts from 0; HEADER and BLOCK request their read, END is formed and
sent (R146). -/
def beginAttempt (x : Side) (t : Transfer) (s : State) : State :=
  let timed := { t with replyTimer := some 0 }
  let dropped := dropAttempt x s
  let set := dropped.setLink x { dropped.link x with transfer := some timed }
  match t.step with
  | .compare => set
  | .header => requestPort (linkRequester x) (.headerRead t.slot) set
  | .block k => requestPort (linkRequester x) (.blockRead t.slot x k) set
  | .finish => sendOnLink x (endFrame t) set

/-- The step after an acknowledged step: the next block of the map, or END (R142). -/
def nextStep (map : List (Fin 5)) : TransferStep → TransferStep
  | .header =>
    match map with
    | [] => .finish
    | k :: _ => .block k
  | .block k =>
    match map.find? fun j => decide (k < j) with
    | some j => .block j
    | none => .finish
  | .compare => .header
  | .finish => .finish

/-! ## Ends of a transfer (R137, R149, R150, R152) -/

/-- The transfer ends without success: what it has in hand is given up, its incoming hold is released, and the link is IDLE. -/
def abandonTransfer (x : Side) (s : State) : State :=
  let dropped := dropAttempt x s
  { dropped with store := dropped.store.releaseIncoming x }.setLink x { dropped.link x with transfer := none }

/-- The transfer fails at a step: LINK_TRANSFER_FAILED (R149). -/
def failTransfer (x : Side) (t : Transfer) (s : State) : State :=
  raiseFault (linkFault .linkTransferFailed x (some (.step t.step))) (abandonTransfer x s)

/-- A resend demand: a new attempt of the same step with retries used increased by 1, or failure at 3 (R147, R148). -/
def demandResend (x : Side) (t : Transfer) (s : State) : State :=
  if t.retries < Config.retryLimit then beginAttempt x { t with retries := t.retries + 1 } s
  else failTransfer x t s

/-- The transfer completes: promote, the applied hold takes the incoming slot, and the link is IDLE (R150). -/
def completeTransfer (x : Side) (t : Transfer) (s : State) : State :=
  let dropped := dropAttempt x s
  { dropped with store := dropped.store.promote x }.setLink x
    { dropped.link x with transfer := none, applied := some { slot := t.slot, sequence := t.sequence } }

/-! ## FETCH (R143, R144, R151) -/

/-- The delta base is agreed: FULL clear, NONE clear, and applied_seq equal to the applied hold's sequence (R144). -/
def agreedBase (l : LampLink) (appliedSeq : Nat) (fullFlag noneFlag : Bool) : Option AppliedHold :=
  match l.applied with
  | some a => if fullFlag = false ∧ noneFlag = false ∧ appliedSeq = a.sequence then some a else none
  | none => none

/-- The blocks of a lamp. -/
def allBlocks : List (Fin 5) := [0, 1, 2, 3, 4]

/-- A transfer of the newest slot `n` starts: take, next tag, and the first row of Table 8-3 that applies. A transfer in progress is
given up in the same step (R143, R144, R151). -/
def startTransfer (x : Side) (n : Fin 6) (appliedSeq : Nat) (fullFlag noneFlag : Bool) (s : State) : State :=
  let dropped := dropAttempt x s
  let l := dropped.link x
  let tag := (l.tagCounter + 1) % 16
  let sequence := (s.store.slot n).sequence.getD 0
  let taken := { dropped with store := dropped.store.take x n }.setLink x { l with tagCounter := tag }
  let t := { tag := tag, slot := n, sequence := sequence, map := allBlocks, same := false, step := .header
             retries := 0, replyTimer := none }
  match agreedBase l appliedSeq fullFlag noneFlag with
  | none => beginAttempt x t taken
  | some a =>
    if a.slot = n then beginAttempt x { t with map := [], same := true } taken
    else
      let waiting := { t with map := [], step := .compare }
      requestPort (linkRequester x) (.compare n a.slot x 0)
        (taken.setLink x { taken.link x with transfer := some waiting })

/-- FETCH (R143, R151): ignored while the link is DOWN. -/
def execFetch (link : Side) (bytes : List Byte) (s : State) : Answer :=
  match lampFrame bytes with
  | some (.fetch appliedSeq fullFlag noneFlag) =>
    if (s.link link).state = .down then .next s
    else
      match s.store.newest with
      | none => .fault .noNewestSlot
      | some n => done (startTransfer link n appliedSeq fullFlag noneFlag s)
  | _ => .next s

/-! ## Port accesses of a link -/

/-- LINK_HEADER_READ_DONE (R146): a wanted read forms the HEADER frame, which is sent; the result of a given-up read is discarded; the
port is free. With no header read of the link under way nothing happens (log 3). -/
def execLinkHeaderReadDone (link : Side) (s : State) : Answer :=
  match s.store.accessOf (linkRequester link) with
  | some { access := .headerRead slot, wanted := wanted, .. } =>
    match wanted, (s.link link).transfer with
    | true, some t => done (releasePort (sendOnLink link (headerFrame link t (s.store.slot slot).memory.header) s))
    | _, _ => done (releasePort s)
  | _ => .next s

/-- LINK_BLOCK_READ_DONE (R146): as LINK_HEADER_READ_DONE, with the BLOCK frame. -/
def execLinkBlockReadDone (link : Side) (s : State) : Answer :=
  match s.store.accessOf (linkRequester link) with
  | some { access := .blockRead slot lamp k, wanted := wanted, .. } =>
    match wanted, (s.link link).transfer with
    | true, some t => done (releasePort (sendOnLink link (blockFrame t k ((s.store.slot slot).memory.block lamp k)) s))
    | _, _ => done (releasePort s)
  | _ => .next s

/-- A block compare differs: not all 24 values agree (Table 7-3). -/
def blocksDiffer (st : FrameStore) (a b : Fin 6) (lamp : Side) (k : Fin 5) : Bool :=
  (st.slot a).memory.block lamp k != (st.slot b).memory.block lamp k

/-- The compare after compare `k`, or the first attempt of HEADER after the fifth (R144). -/
def afterCompare (x : Side) (a b : Fin 6) (t : Transfer) (s : State) : Fin 5 → State
  | 0 => requestPort (linkRequester x) (.compare a b x 1) s
  | 1 => requestPort (linkRequester x) (.compare a b x 2) s
  | 2 => requestPort (linkRequester x) (.compare a b x 3) s
  | 3 => requestPort (linkRequester x) (.compare a b x 4) s
  | 4 => beginAttempt x { t with step := .header } s

/-- BLOCK_COMPARE_DONE (R144): a wanted compare that differs adds its block to the map, and the next compare is requested or HEADER
begins; the result of a given-up compare is discarded. With no compare of the link under way nothing happens (log 3). -/
def execBlockCompareDone (link : Side) (s : State) : Answer :=
  match s.store.accessOf (linkRequester link) with
  | some { access := .compare a b lamp k, wanted := wanted, .. } =>
    match wanted, (s.link link).transfer with
    | true, some t =>
      let noted := if blocksDiffer s.store a b lamp k then { t with map := t.map ++ [k] } else t
      let set := s.setLink link { s.link link with transfer := some noted }
      done (afterCompare link a b noted (releasePort set) k)
    | _, _ => done (releasePort s)
  | _ => .next s

/-- LINK_FRAME_SEND_END (R146): the wire is free, and a frame waiting for it is sent. With nothing on the wire nothing happens
(log 3). -/
def execLinkFrameSendEnd (link : Side) (s : State) : Answer :=
  match (s.link link).wire with
  | some _ => done (s.setLink link { s.link link with wire := (s.link link).waiting, waiting := none })
  | none => .next s

/-! ## Replies (R147 to R152) -/

/-- The transfer record that a reply matches: the link UP and SENDING, the reply's tag the record's tag (R148). -/
def matchedTransfer (l : LampLink) (tag : Nat) : Option Transfer :=
  match l.state, l.transfer with
  | .up, some t => if t.tag = tag then some t else none
  | _, _ => none

/-- A matching ACK (Table 8-4). -/
def takeAck (x : Side) (t : Transfer) (s : State) : State :=
  match t.step with
  | .finish => completeTransfer x t s
  | _ => beginAttempt x { t with step := nextStep t.map t.step } s

/-- ACK (R148): matched when it names the current step. -/
def execAck (link : Side) (bytes : List Byte) (s : State) : Answer :=
  match lampFrame bytes with
  | some (.ack tag step) =>
    match matchedTransfer (s.link link) tag with
    | some t => if step = some t.step then done (takeAck link t s) else .next s
    | none => .next s
  | _ => .next s

/-- RETRY (R148): matched when it names the current step. -/
def execRetry (link : Side) (bytes : List Byte) (s : State) : Answer :=
  match lampFrame bytes with
  | some (.retry tag step) =>
    match matchedTransfer (s.link link) tag with
    | some t => if step = some t.step then done (demandResend link t s) else .next s
    | none => .next s
  | _ => .next s

/-- QUIT (R152): matched in any step, COMPARE included. -/
def execQuit (link : Side) (bytes : List Byte) (s : State) : Answer :=
  match lampFrame bytes with
  | some (.quit tag) =>
    match matchedTransfer (s.link link) tag with
    | some _ => done (abandonTransfer link s)
    | none => .next s
  | _ => .next s

/-- REPLY_TIMEOUT (R147): a running reply timer reaches 5 ms. Without one nothing happens (log 3). -/
def execReplyTimeout (link : Side) (s : State) : Answer :=
  match (s.link link).transfer with
  | some t =>
    match t.replyTimer with
    | some _ => done (demandResend link t s)
    | none => .next s
  | none => .next s

/-! ## Lamp status and link state (R136 to R140) -/

/-- The dead-segment set of a dead list: entries above 119 and repeats ignored; kept as its members in rising order (R139). -/
def deadSet (entries : List Nat) : List Nat := (List.range 120).filter fun i => entries.contains i

/-- DEAD_LIMIT's check after each replacement of the dead set (R140). -/
def checkDeadLimit (x : Side) (limit : Nat) (s : State) : State :=
  let l := s.link x
  if limit ≤ l.dead.length then
    if l.deadLimitFlag then s
    else raiseFault (linkFault .deadLimit x none) (s.setLink x { l with deadLimitFlag := true })
  else s.setLink x { l with deadLimitFlag := false }

/-- A lamp status change that LINK_CHANGED reports: the link comes UP, or the supply-ok flag differs while UP (R136, R139). -/
def statusChanged (l : LampLink) (supplyOk : Bool) : Bool := l.state == .down || l.supplyOk != some supplyOk

/-- A valid LAMP_STATE taken (R136, R139, R140). -/
def takeLampState (x : Side) (temp : Int) (supplyOk : Bool) (entries : List Nat) (s : State) : State :=
  let l := s.link x
  let status :=
    { l with state := .up, statusTimer := some 0, temp := some (clamp (-40) 150 temp), supplyOk := some supplyOk
             dead := deadSet entries }
  let taken := s.setLink x status
  let noticed := if statusChanged l supplyOk then raiseNotice .linkChanged taken else taken
  checkDeadLimit x ((activeCal s).nat .deadLimit) noticed

/-- LAMP_STATE (R136, R139). -/
def execLampState (link : Side) (bytes : List Byte) (s : State) : Answer :=
  match lampFrame bytes with
  | some (.lampState temp supplyOk entries) => done (takeLampState link temp supplyOk entries s)
  | _ => .next s

/-- STATUS_TIMER_EXPIRY (R137): the transfer is aborted, both holds are released, the lamp status is unknown, the link is DOWN;
LINK_DOWN and LINK_CHANGED. With the timer not running nothing happens (log 3). -/
def execStatusTimerExpiry (link : Side) (s : State) : Answer :=
  match (s.link link).statusTimer with
  | none => .next s
  | some _ =>
    let aborted := abandonTransfer link s
    let l := aborted.link link
    let down :=
      { aborted with store := aborted.store.releaseApplied link }.setLink link
        { l with state := .down, statusTimer := none, temp := none, supplyOk := none, dead := []
                 deadLimitFlag := false, applied := none }
    done (raiseNotice .linkChanged (raiseFault (linkFault .linkDown link none) down))

end Sys2Proof.Machine
end

