-- ==== Sys2Proof/Machine/Motion.lean ====
section
/-! DEFINITION. The motion unit's commands (Chapter 2): MOTION, with the gate and the road class it drives (R51 to R54), LANE,
PRESENCE_STALE and PRESENCE_LOST. -/

namespace Sys2Proof.Machine

/-! ## MOTION -/

/-- The gate after an accepted MOTION of speed `v`: the first row of R51's table that holds. -/
def nextGate (adbOn adbOff v : Nat) (gate : SpeedGate) : SpeedGate :=
  if adbOn ≤ v then .opened else if v < adbOff then .closed else gate

/-- The road class candidate: the first class of Table 3-3 whose condition holds (R53). -/
def roadCandidate (v : Nat) (kappa : Int) (streetLit : Bool) (lights townLights : Nat) : RoadClass :=
  if v < 1400 ∧ (streetLit = true ∨ townLights ≤ lights) then .town
  else if 4000 ≤ kappa.natAbs then .winding
  else if 2200 ≤ v ∧ kappa.natAbs < 1000 then .motorway
  else .rural

/-- The threshold of a pending candidate (R54). -/
def confirmThreshold (confirmN confirmWinding : Nat) : RoadClass → Nat
  | .winding => confirmWinding
  | _ => confirmN

/-- The confirmation record after a candidate, before the comparison with the threshold (R54). -/
def noteCandidate (c : RoadClass) (m : ModeSelector) : ModeSelector :=
  if c = m.roadClass then { m with candidate := none, count := 0 }
  else if m.candidate = some c then { m with count := m.count + 1 }
  else { m with candidate := some c, count := 1 }

/-- The switch of the road class when the pending candidate's count has reached its threshold (R54). -/
def switchClass (confirmN confirmWinding : Nat) (m : ModeSelector) : ModeSelector :=
  match m.candidate with
  | none => m
  | some c =>
    if confirmThreshold confirmN confirmWinding c ≤ m.count then
      { m with roadClass := c, candidate := none, count := 0 }
    else m

/-- A candidate taken against the confirmation record (R54). -/
def confirmCandidate (confirmN confirmWinding : Nat) (c : RoadClass) (m : ModeSelector) : ModeSelector :=
  switchClass confirmN confirmWinding (noteCandidate c m)

/-- The mode selector's handling of an accepted MOTION, the motion record already replaced: the gate (R51), then the road-class
judgment (R53, R54). -/
def judgeMotion (r : MotionRecord) (s : State) : State :=
  let cal := activeCal s
  let gated := { s.selector with gate := nextGate (cal.nat .adbOn) (cal.nat .adbOff) r.v s.selector.gate }
  let kappa := (curvature (cal.nat .laneConfMin) s.motion).1
  let candidate := roadCandidate r.v kappa s.selector.scene.streetLit
    (lightCount (cal.nat .confMin) s.tracks) (cal.nat .townLights)
  { s with selector := confirmCandidate (cal.nat .confirmN) (cal.nat .confirmWinding) candidate gated }

/-- An accepted MOTION: the record is replaced, the repeat run ends, presence is FRESH with its timer from 0, and the mode
selector takes the record (R27). -/
def acceptMotion (r : MotionRecord) (s : State) : State :=
  judgeMotion r
    { s with motion := { s.motion with
        record := some r, presence := .fresh, timer := some 0, runCount := 0, frozenRaised := false } }

/-- A repeat: it adds 1 to the run count, and the third of a run raises MOTION_FROZEN (R25, R26). -/
def repeatMotion (s : State) : State :=
  let count := s.motion.runCount + 1
  if Config.repeatRunLength ≤ count ∧ s.motion.frozenRaised = false then
    raiseFault (plainFault .motionFrozen)
      { s with motion := { s.motion with runCount := count, frozenRaised := true } }
  else { s with motion := { s.motion with runCount := count } }

/-- The message is a repeat: its alive counter equals the record's (R25). -/
def isRepeat (r : MotionRecord) (u : MotionUnit) : Bool := u.record.any (·.alive == r.alive)

/-- MOTION (R24). -/
def execMotion (data : List Byte) (s : State) : Answer :=
  receiveC idMotion (lengthIs 12 data) s fun s =>
    if isRepeat (motionFields data) s.motion then done (repeatMotion s)
    else done (acceptMotion (motionFields data) s)

/-! ## LANE and presence -/

/-- LANE (R30). -/
def execLane (data : List Byte) (s : State) : Answer :=
  receiveV idLane (lengthIs 3 data) s fun s =>
    done { s with motion := { s.motion with lane := some (laneFields data) } }

/-- PRESENCE_STALE (R28): a running timer of a FRESH unit reaches 100 ms. Without one nothing happens (log 3). -/
def execPresenceStale (s : State) : Answer :=
  match s.motion.presence, s.motion.timer with
  | .fresh, some _ =>
    done { s with motion := { s.motion with presence := .stale, timer := some Config.staleLimit } }
  | _, _ => .next s

/-- PRESENCE_LOST (R28, R52): a running timer reaches 500 ms: LOST, the timer stops, MOTION_LOST, the gate closes. Without a
running timer nothing happens (log 3). -/
def execPresenceLost (s : State) : Answer :=
  match s.motion.timer with
  | some _ =>
    done (raiseFault (plainFault .motionLost)
      { s with
        motion := { s.motion with presence := .lost, timer := none }
        selector := { s.selector with gate := .closed } })
  | none => .next s

end Sys2Proof.Machine
end

