-- ==== Sys2Proof/Machine/Selector.lean ====
section
/-! DEFINITION. The mode selector's and the vision presence's commands (Chapter 3): SCENE, DRIVER, FLASH_EXPIRY, VISION_LOSS. -/

namespace Sys2Proof.Machine

/-- SCENE (R46). -/
def execScene (data : List Byte) (s : State) : Answer :=
  receiveV idScene (lengthIs 3 data) s fun s =>
    done { s with selector := { s.selector with scene := sceneFields data } }

/-- A DRIVER with a valid code (Table 3-2). -/
def takeDriver (r : DriverRequest) (m : ModeSelector) : ModeSelector :=
  match r, m.flash with
  | .steady q, _ => { m with request := .steady q, lastSteady := q, flash := .idle }
  | .flash, .idle => { m with request := .flash, flash := .active 0 }
  | .flash, .active _ => { m with request := .flash }
  | .flash, .spent => m

/-- DRIVER (R43, R44). -/
def execDriver (data : List Byte) (s : State) : Answer :=
  receiveC idDriver (lengthIs 1 data) s fun s =>
    match requestOfCode (byteAt data 0) with
    | none => done (raiseFault (badMessage idDriver 0) s)
    | some r => done { s with selector := takeDriver r s.selector }

/-- The flash runs out: the request reverts and the flash is SPENT (R45). -/
def spendFlash (m : ModeSelector) : ModeSelector := { m with request := .steady m.lastSteady, flash := .spent }

/-- FLASH_EXPIRY (R45). Without a flash in progress nothing happens (log 3). -/
def execFlashExpiry (s : State) : Answer :=
  match s.selector.flash with
  | .active _ => done { s with selector := spendFlash s.selector }
  | _ => .next s

/-- The scene record with its flags cleared; the ambient is kept (R49). -/
def clearSceneFlags (r : SceneRecord) : SceneRecord := { r with streetLit := false, fog := false, rain := false }

/-- VISION_LOSS (R49, R20): LOST with the timer stopped, VISION_LOST, the track table emptied, the scene flags cleared. Without a
running timer nothing happens (log 3). -/
def execVisionLoss (s : State) : Answer :=
  match s.vision.timer with
  | some _ =>
    done (raiseFault (plainFault .visionLost)
      { s with
        vision := { present := false, timer := none }
        tracks := []
        selector := { s.selector with scene := clearSceneFlags s.selector.scene } })
  | none => .next s

end Sys2Proof.Machine
end

