-- ==== Sys2Proof/Machine/Operating.lean ====
section
/-! DEFINITION. Calibration, operating state and resets (Chapter 10): CAL_SET, CAL_DONE, CONFIG_ENTER, RESTART, POWER_ON_RESET. -/

namespace Sys2Proof.Machine

/-! ## Calibration (R179, R180) -/

/-- A CAL_SET that leaves flash_max at or below the time an active flash has run makes the flash timer run out (R42). -/
def recheckFlash (flashMax : Nat) (m : ModeSelector) : ModeSelector :=
  match m.flash with
  | .active elapsed => if flashMax ≤ elapsed then spendFlash m else m
  | _ => m

/-- A value written into the working set in CONFIG: clamped, with CAL_CLAMPED if the clamp changed it (R179, R42). -/
def writeParam (p : Param) (v : Int) (s : State) : State :=
  let value := p.clampValue v
  let working := s.working.put p value
  let written :=
    { s with
      working := working
      selector := if p = .flashMax then recheckFlash (working.nat .flashMax) s.selector else s.selector }
  if value = v then written else raiseNotice .calClamped written

/-- CAL_SET (R179). -/
def execCalSet (data : List Byte) (s : State) : Answer :=
  receiveC idCalSet (lengthIs 3 data) s fun s =>
    match paramOfId (byteAt data 0) with
    | none => done (raiseFault (badMessage idCalSet 0) s)
    | some p =>
      match s.operating with
      | .run => done (raiseFault (requestRefused idCalSet (some p.id)) s)
      | .config => done (writeParam p (signed16 data 1) s)

/-- A change of operating state is reported: STATE_CHANGED, then a STATUS (R170, R177). -/
def reportChange (s : State) : State := changeStatus (raiseNotice .stateChanged s)

/-- The working set becomes the committed set, and the part enters RUN with the build timer from 0 and the working copy empty
(R180). -/
def enterRun (s : State) : State :=
  { s with
    committed := some s.working
    operating := .run
    builder := { s.builder with timer := some 0, workingCopy := none } }

/-- CAL_DONE (R180): ignored in RUN. -/
def execCalDone (data : List Byte) (s : State) : Answer :=
  receiveC idCalDone (lengthIs 0 data) s fun s =>
    match s.operating with
    | .run => .next s
    | .config =>
      match crossCheck s.working with
      | some p => done (raiseFault (itemFault .calRefused (.param p)) s)
      | none => done (reportChange (enterRun s))

/-! ## Installation of the LIMP frame (R94, R130, R155) -/

/-- A link at an installation: its transfer aborted, its holds dropped; all else is kept (R155, R137 step 1). -/
def LampLink.afterInstall (l : LampLink) : LampLink := { l with transfer := none, applied := none, waiting := none }

/-- The LIMP frame installed: the build in flight is abandoned (R94), the store, the mirror and the links as R130, R90 and R155
say. -/
def installLimp (s : State) : State :=
  { s with
    store := s.store.installLimp
    builder := { s.builder with phase := .idle, mirror := frameToMirror limpFrame }
    linkL := s.linkL.afterInstall
    linkR := s.linkR.afterInstall }

/-! ## CONFIG_ENTER, RESTART and power-on reset (R181 to R183) -/

/-- A CONFIG_ENTER is accepted: RUN, presence FRESH, recorded v below 50 (R181). -/
def configAccepted (s : State) : Bool :=
  s.operating == .run && s.motion.presence == .fresh &&
    s.motion.record.any fun m => decide (m.v < Config.configSpeedLimit)

/-- Entry to CONFIG (R181): the working set becomes a copy of the committed set, the build timer stops, the track table is emptied,
the LIMP frame is installed, and a diagnostic read put back as waiting is served afresh (R133). DESIGN CHOICE (log 24), unsafe: its grant
is made in the same command, so DIAG becomes the last-granted requester. -/
def enterConfig (s : State) : State :=
  arbitrate (installLimp
    { s with
      operating := .config
      working := committedCal s
      tracks := []
      builder := { s.builder with timer := none } })

/-- CONFIG_ENTER (R181). -/
def execConfigEnter (data : List Byte) (s : State) : Answer :=
  receiveC idConfigEnter (lengthIs 0 data) s fun s =>
    if configAccepted s then done (reportChange (enterConfig s))
    else done (raiseFault (requestRefused idConfigEnter none) s)

/-- The cache after RESTART: slots and settings kept (Table 4-3). -/
def restartCache (c : DistCache) : DistCache := { c with fill := none, request := none, failed := [], history := [] }

/-- The operating state after RESTART: RUN when a committed set exists, else CONFIG (R182). -/
def stateAfterRestart (s : State) : OperatingState := if s.committed.isSome then .run else .config

/-- Every block as its chapter lists for RESTART (R182). DESIGN CHOICE (log 24), unsafe: a diagnostic read that the installation leaves
waiting is granted in the same command, so DIAG becomes the last-granted requester. -/
def resetBlocks (s : State) : State :=
  arbitrate (installLimp
    { s with
      operating := stateAfterRestart s
      working := s.committed.getD defaultCal
      tracks := []
      motion := resetMotion
      selector := resetSelector
      vision := resetVision
      cache := restartCache s.cache
      builder := { s.builder with
        timer := if s.committed.isSome then some 0 else none
        workingCopy := none }
      diag := { s.diag with notices := 0 }
      cPort := { s.cPort with distRequest := none } })

/-- RESTART (R182): STATE_CHANGED and a STATUS only if the state differs from the one it was taken in. -/
def execRestart (data : List Byte) (s : State) : Answer :=
  receiveC idRestart (lengthIs 0 data) s fun s =>
    if stateAfterRestart s = s.operating then done (resetBlocks s) else done (reportChange (resetBlocks s))

/-- POWER_ON_RESET (R183): every block at its power-on values, and the STATUS queued when the reset ends. The queue of waiting
commands and the model's counter are not the part's and stand as they are (log 2). -/
def execPowerOnReset (s : State) : Answer :=
  .next { State.reset with pending := s.pending, freeIndex := s.freeIndex }

end Sys2Proof.Machine
end

