-- ==== Sys2Proof/Machine/Ports.lean ====
section
/-! DEFINITION. The ports' own events (R174, R175): BUS_OFF, BUS_OFF_RECOVERY, TRANSMISSION_END. -/

namespace Sys2Proof.Machine

/-- The V-port bus-off: its outbound slot emptied, a message in transmission lost (R175). -/
def vPortOff (s : State) : State := { s with vPort := { busOff := true, litmap := none, sending := none } }

/-- The C-port bus-off: its outbound queue emptied, a message in transmission lost; a lost reply frees the reader (R175). -/
def cPortOff (s : State) : State :=
  { s with
    cPort :=
      { busOff := true, status := none, notice := none, distRequest := none, diagReply := none, sending := none }
    reader := if s.cPort.diagReply.isSome then none else s.reader }

/-- BUS_OFF (R175). A port that is bus-off already is not on the bus, and nothing happens (log 3). -/
def execBusOff (port : Port) (s : State) : Answer :=
  match port with
  | .vPort => if s.vPort.busOff then .next s else done (vPortOff s)
  | .cPort => if s.cPort.busOff then .next s else done (cPortOff s)

/-- BUS_OFF_RECOVERY (R175): the port is on the bus again and sends what was queued meanwhile. With the port on the bus nothing
happens (log 3). -/
def execBusOffRecovery (port : Port) (s : State) : Answer :=
  match port with
  | .vPort => if s.vPort.busOff then done { s with vPort := { s.vPort with busOff := false } } else .next s
  | .cPort => if s.cPort.busOff then done { s with cPort := { s.cPort with busOff := false } } else .next s

/-- TRANSMISSION_END (R174): the transmitter is free for the next queued message. With nothing in transmission nothing happens
(log 3). -/
def execTransmissionEnd (port : Port) (s : State) : Answer :=
  match port with
  | .vPort => if s.vPort.sending.isSome then done { s with vPort := { s.vPort with sending := none } } else .next s
  | .cPort => if s.cPort.sending.isSome then done { s with cPort := { s.cPort with sending := none } } else .next s

end Sys2Proof.Machine
end

