-- ==== Sys2Proof/Machine/Tracks.lean ====
section
/-! DEFINITION. The track table's commands (Chapter 1): TRACKS, TRACK_END, RELEASE_TIMER_EXPIRY, TRACK_AGE_EXPIRY. -/

namespace Sys2Proof.Machine

/-! ## One record of a TRACKS (R4 to R9) -/

/-- A record is malformed: a bad id, an unknown class, or raw θL above raw θR (R4). -/
def TrackRecord.malformed (r : TrackRecord) : Bool :=
  r.id == 0 || r.id == 255 || (classOfCode r.classCode).isNone || decide (r.thetaR < r.thetaL)

/-- A new entry's fields: a record's quantities clamped (R5), LIVE, age 0 (R7). The class of a well-formed record is its code's;
OTHER_LIGHT stands for a code that R4 has discarded. -/
def TrackRecord.entry (r : TrackRecord) : TrackEntry :=
  { id := r.id
    cls := (classOfCode r.classCode).getD .otherLight
    thetaL := clamp (-3000) 3000 r.thetaL
    thetaR := clamp (-3000) 3000 r.thetaR
    phiT := clamp (-1000) 1000 r.phiT
    dist := min r.dist 5000
    conf := min r.conf 100
    life := .live
    age := 0 }

/-- Class priority, higher for a higher class (Section 1.3.1). -/
def TrackClass.priority : TrackClass → Nat
  | .oncoming => 3
  | .preceding => 2
  | .otherLight => 1
  | .sign => 0

/-- Distance `a` counts as farther than `b`: unknown, 0, is farther than any known distance (R8). -/
def farther (a b : Nat) : Bool := b != 0 && (a == 0 || decide (b < a))

/-- Entry `a` is given up before entry `b` by the first two criteria of R8. -/
def givenUpBefore (a b : TrackEntry) : Bool :=
  decide (a.cls.priority < b.cls.priority) || (a.cls == b.cls && farther a.dist b.dist)

/-- The victim: lowest class, then greatest distance, then lowest position (R8). -/
def victim : List TrackEntry → Option TrackEntry
  | [] => none
  | e :: rest =>
    match victim rest with
    | none => some e
    | some v => if givenUpBefore v e then some v else some e

/-- The newcomer displaces the victim (R9). -/
def displaces (newcomer v : TrackEntry) : Bool :=
  decide (v.cls.priority < newcomer.cls.priority) ||
    (newcomer.cls == v.cls && newcomer.dist != 0 && farther v.dist newcomer.dist)

/-- An id is present in the table. -/
def isPresent (id : Nat) (tracks : List TrackEntry) : Bool := tracks.any (·.id == id)

/-- The table without the entry of an id; the entries behind it move up (R1). -/
def removeTrack (id : Nat) (tracks : List TrackEntry) : List TrackEntry := tracks.filter (·.id != id)

/-- The table with the entry of a record's id replaced in its place by the record's clamped values, LIVE, age 0 (R6). -/
def updateTrack (e : TrackEntry) (tracks : List TrackEntry) : List TrackEntry :=
  tracks.map fun old => if old.id == e.id then e else old

/-- The table after a well-formed record, or none when the newcomer is refused (R6 to R9). -/
def admitTrack (e : TrackEntry) (tracks : List TrackEntry) : Option (List TrackEntry) :=
  if isPresent e.id tracks then some (updateTrack e tracks)
  else if tracks.length < Config.trackCapacity then some (tracks ++ [e])
  else
    match victim tracks with
    | none => none
    | some v => if displaces e v then some (removeTrack v.id tracks ++ [e]) else none

/-- One record handled completely: malformed check, clamping, then update, append or eviction (R3). -/
def takeRecord (index : Nat) (r : TrackRecord) (s : State) : State :=
  if r.malformed then raiseFault (badMessage idTracks index) s
  else
    match admitTrack r.entry s.tracks with
    | some tracks => { s with tracks := tracks }
    | none => raiseFault (itemFault .tableFull (.track r.id index)) s

/-- The records of a message in record-index order (R3). -/
def takeRecords (records : List (Nat × TrackRecord)) (s : State) : State :=
  records.foldl (fun s r => takeRecord r.1 r.2 s) s

/-- TRACKS (R3): in CONFIG every record is discarded without examination. -/
def execTracks (data : List Byte) (s : State) : Answer :=
  receiveV idTracks (tracksLengthOk data) s fun s =>
    match s.operating with
    | .config => done s
    | .run => done (takeRecords (tracksRecords data) s)

/-! ## TRACK_END, release and ageing -/

/-- The entry of an id. -/
def findTrack (id : Nat) (tracks : List TrackEntry) : Option TrackEntry := tracks.find? (·.id == id)

/-- The table with the entry of an id made RELEASING with a timer (R10). -/
def releaseTrack (id hold : Nat) (tracks : List TrackEntry) : List TrackEntry :=
  tracks.map fun e => if e.id == id then { e with life := .releasing hold } else e

/-- TRACK_END's effect in RUN on a table that has a LIVE entry of the id: removed at once with release_hold 0, else RELEASING; a
RELEASING entry and an absent id are left as they stand (R10). -/
def endTrack (id hold : Nat) (tracks : List TrackEntry) : List TrackEntry :=
  match findTrack id tracks with
  | none => tracks
  | some e =>
    match e.life with
    | .releasing _ => tracks
    | .live => if hold = 0 then removeTrack id tracks else releaseTrack id hold tracks

/-- TRACK_END (R10). -/
def execTrackEnd (data : List Byte) (s : State) : Answer :=
  receiveV idTrackEnd (lengthIs 1 data) s fun s =>
    match s.operating with
    | .config => done s
    | .run =>
      if byteAt data 0 = 0 ∨ byteAt data 0 = 255 then done (raiseFault (badMessage idTrackEnd 0) s)
      else done { s with tracks := endTrack (byteAt data 0) ((activeCal s).nat .releaseHold) s.tracks }

/-- RELEASE_TIMER_EXPIRY (R11): a RELEASING entry of the id is removed; without one there is no such timer, and nothing happens
(log 3). -/
def execReleaseTimerExpiry (trackId : Nat) (s : State) : Answer :=
  match findTrack trackId s.tracks with
  | some { life := .releasing _, .. } => done { s with tracks := removeTrack trackId s.tracks }
  | _ => .next s

/-- TRACK_AGE_EXPIRY (R12): the entry of the id is removed; without one the expiry "finds no entry and has no effect" (R13). -/
def execTrackAgeExpiry (trackId : Nat) (s : State) : Answer :=
  if isPresent trackId s.tracks then done { s with tracks := removeTrack trackId s.tracks } else .next s

end Sys2Proof.Machine
end

