-- ==== Sys2Proof/Machine/Dispatch.lean ====
section
/-! DEFINITION. One arm per command: its meaning. -/

namespace Sys2Proof.Machine

/-- A command's effect on everything but the queue. -/
def exec (i : Instr) (s : State) : Host.Outcome State Fault Refusal :=
  match i with
  | .tracks data => Sys2Proof.Machine.execTracks data s
  | .trackEnd data => Sys2Proof.Machine.execTrackEnd data s
  | .releaseTimerExpiry trackId => Sys2Proof.Machine.execReleaseTimerExpiry trackId s
  | .trackAgeExpiry trackId => Sys2Proof.Machine.execTrackAgeExpiry trackId s
  | .lane data => Sys2Proof.Machine.execLane data s
  | .scene data => Sys2Proof.Machine.execScene data s
  | .motion data => Sys2Proof.Machine.execMotion data s
  | .presenceStale => Sys2Proof.Machine.execPresenceStale s
  | .presenceLost => Sys2Proof.Machine.execPresenceLost s
  | .driver data => Sys2Proof.Machine.execDriver data s
  | .flashExpiry => Sys2Proof.Machine.execFlashExpiry s
  | .visionLoss => Sys2Proof.Machine.execVisionLoss s
  | .buildTimerExpiry => Sys2Proof.Machine.execBuildTimerExpiry s
  | .computeComplete => Sys2Proof.Machine.execComputeComplete s
  | .commitBlockWriteDone => Sys2Proof.Machine.execCommitBlockWriteDone s
  | .commitHeaderWriteDone => Sys2Proof.Machine.execCommitHeaderWriteDone s
  | .linkHeaderReadDone link => Sys2Proof.Machine.execLinkHeaderReadDone link s
  | .linkBlockReadDone link => Sys2Proof.Machine.execLinkBlockReadDone link s
  | .blockCompareDone link => Sys2Proof.Machine.execBlockCompareDone link s
  | .diagBlockReadDone => Sys2Proof.Machine.execDiagBlockReadDone s
  | .linkFrameSendEnd link => Sys2Proof.Machine.execLinkFrameSendEnd link s
  | .lampState link bytes => Sys2Proof.Machine.execLampState link bytes s
  | .statusTimerExpiry link => Sys2Proof.Machine.execStatusTimerExpiry link s
  | .fetch link bytes => Sys2Proof.Machine.execFetch link bytes s
  | .ack link bytes => Sys2Proof.Machine.execAck link bytes s
  | .retry link bytes => Sys2Proof.Machine.execRetry link bytes s
  | .replyTimeout link => Sys2Proof.Machine.execReplyTimeout link s
  | .quit link bytes => Sys2Proof.Machine.execQuit link bytes s
  | .distData data => Sys2Proof.Machine.execDistData data s
  | .distDrop data => Sys2Proof.Machine.execDistDrop data s
  | .distClear data => Sys2Proof.Machine.execDistClear data s
  | .distLock data => Sys2Proof.Machine.execDistLock data s
  | .requestTimerExpiry => Sys2Proof.Machine.execRequestTimerExpiry s
  | .clearFaults data => Sys2Proof.Machine.execClearFaults data s
  | .clearNotices data => Sys2Proof.Machine.execClearNotices data s
  | .noticeMask data => Sys2Proof.Machine.execNoticeMask data s
  | .diagReadTrackEntry data => Sys2Proof.Machine.execDiagReadTrackEntry data s
  | .diagReadFrameBlock data => Sys2Proof.Machine.execDiagReadFrameBlock data s
  | .diagReadCaptureRecord data => Sys2Proof.Machine.execDiagReadCaptureRecord data s
  | .diagReadCacheSlot data => Sys2Proof.Machine.execDiagReadCacheSlot data s
  | .diagReadLookupHistory data => Sys2Proof.Machine.execDiagReadLookupHistory data s
  | .calSet data => Sys2Proof.Machine.execCalSet data s
  | .calDone data => Sys2Proof.Machine.execCalDone data s
  | .configEnter data => Sys2Proof.Machine.execConfigEnter data s
  | .restart data => Sys2Proof.Machine.execRestart data s
  | .powerOnReset => Sys2Proof.Machine.execPowerOnReset s
  | .busOff port => Sys2Proof.Machine.execBusOff port s
  | .busOffRecovery port => Sys2Proof.Machine.execBusOffRecovery port s
  | .transmissionEnd port => Sys2Proof.Machine.execTransmissionEnd port s

end Sys2Proof.Machine
end

