-- ==== Sys2Proof/Machine/Time.lean ====
section
/-! DEFINITION. One millisecond of the part's time bases (5.6): what a step does when no command waits. Every running timer and age
advances by 1 ms; a timer that would reach its limit stays 1 ms short of it, and the command of its expiry is queued (log 2). -/

namespace Sys2Proof.Machine

/-- A running timer 1 ms on, 1 ms short of its limit at most. -/
def advance (limit : Nat) (t : Option Nat) : Option Nat := t.map fun n => if limit ≤ n + 1 then n else n + 1

/-- The command of an expiry, when a running timer reaches its limit in this millisecond. -/
def due (limit : Nat) (t : Option Nat) (c : Instr) : List Instr := if t.any fun n => decide (limit ≤ n + 1) then [c] else []

/-- An entry's age and release timer 1 ms on (R11, R12). -/
def ageTrack (expiry : Nat) (e : TrackEntry) : TrackEntry :=
  { e with
    age := if expiry ≤ e.age + 1 then e.age else e.age + 1
    life :=
      match e.life with
      | .live => .live
      | .releasing remaining => .releasing (if remaining ≤ 1 then remaining else remaining - 1) }

/-- An entry's release timer runs out in this millisecond (R11). -/
def releaseDue (e : TrackEntry) : List Instr :=
  match e.life with
  | .live => []
  | .releasing remaining => if remaining ≤ 1 then [.releaseTimerExpiry e.id] else []

/-- The expiries of an entry (R11, R12). -/
def trackDue (expiry : Nat) (e : TrackEntry) : List Instr :=
  releaseDue e ++ if expiry ≤ e.age + 1 then [.trackAgeExpiry e.id] else []

/-- The presence timer's next limit (R28). -/
def presenceLimit (u : MotionUnit) : Nat := if u.presence = .fresh then Config.staleLimit else Config.lostLimit

/-- The command of that limit. -/
def presenceCommand (u : MotionUnit) : Instr := if u.presence = .fresh then .presenceStale else .presenceLost

/-- The flash timer, when a flash is in progress. -/
def FlashState.timer : FlashState → Option Nat
  | .active elapsed => some elapsed
  | _ => none

/-- The flash state 1 ms on. -/
def advanceFlash (limit : Nat) : FlashState → FlashState
  | .active elapsed => .active (if limit ≤ elapsed + 1 then elapsed else elapsed + 1)
  | f => f

/-- The reply timer of a link's transfer. -/
def LampLink.replyTimer (l : LampLink) : Option Nat := l.transfer.bind (·.replyTimer)

/-- A link's timers 1 ms on (R136, R147). -/
def advanceLink (l : LampLink) : LampLink :=
  { l with
    statusTimer := advance Config.statusLimit l.statusTimer
    transfer := l.transfer.map fun t => { t with replyTimer := advance Config.replyLimit t.replyTimer } }

/-- A link's expiries. -/
def linkDue (x : Side) (l : LampLink) : List Instr :=
  due Config.statusLimit l.statusTimer (.statusTimerExpiry x) ++ due Config.replyLimit l.replyTimer (.replyTimeout x)

/-- The track table's expiries; ages advance in RUN (R12), and the table is empty in CONFIG. -/
def tracksDue (s : State) : List Instr :=
  match s.operating with
  | .config => []
  | .run => s.tracks.flatMap (trackDue ((activeCal s).nat .trackExpiry))

/-- The track table 1 ms on. -/
def ageTracks (s : State) : List TrackEntry :=
  match s.operating with
  | .config => s.tracks
  | .run => s.tracks.map (ageTrack ((activeCal s).nat .trackExpiry))

/-- The commands of the expiries of this millisecond, in the order they are queued; the build timer's is last (log 2). -/
def dueCommands (s : State) : List Instr :=
  tracksDue s
    ++ due (presenceLimit s.motion) s.motion.timer (presenceCommand s.motion)
    ++ due ((activeCal s).nat .flashMax) s.selector.flash.timer .flashExpiry
    ++ due Config.visionLimit s.vision.timer .visionLoss
    ++ linkDue .left s.linkL ++ linkDue .right s.linkR
    ++ due Config.requestLimit (s.cache.request.map (·.timer)) .requestTimerExpiry
    ++ due ((committedCal s).nat .buildPeriod) s.builder.timer .buildTimerExpiry

/-- The outstanding request 1 ms on (R70). -/
def advanceRequest (r : DistRequest) : DistRequest :=
  { r with timer := if Config.requestLimit ≤ r.timer + 1 then r.timer else r.timer + 1 }

/-- One millisecond of every time base, with the commands of its expiries queued. -/
def tick (s : State) : State :=
  { s with
    pending := dueCommands s
    tracks := ageTracks s
    motion := { s.motion with
      timer := advance (presenceLimit s.motion) s.motion.timer
      lane := s.motion.lane.map fun l => { l with age := l.age + 1 } }
    selector := { s.selector with flash := advanceFlash ((activeCal s).nat .flashMax) s.selector.flash }
    vision := { s.vision with timer := advance Config.visionLimit s.vision.timer }
    cache := { s.cache with request := s.cache.request.map advanceRequest }
    builder := { s.builder with timer := advance ((committedCal s).nat .buildPeriod) s.builder.timer }
    linkL := advanceLink s.linkL
    linkR := advanceLink s.linkR }

end Sys2Proof.Machine
end

