-- ==== Sys2Proof/Safety.lean ====
section
/-! DEFINITION. What a safe step is, and the invariants of the part: what holds in every state that a run from power-on reset can
reach, block by block. Each is a predicate on any state, so that a statement can start from any state that meets it. -/

namespace Sys2Proof.Machine

/-- A step is safe when it answers a next state. -/
def SafeStep (s : State) : Prop := ∃ t, step s = .next t

/-- An invariant is kept when every step from a state that meets it ends in one that meets it. -/
def KeptByStep (inv : State → Prop) : Prop := ∀ s t, inv s → step s = .next t → inv t

/-! ## What a command gives -/

/-- The command is carried out: its effect is `t`, and what stands queued for a free transmitter begins (R174). -/
def Gives (c : Instr) (s t : State) : Prop := exec c s = .next (beginTransmissions t)

/-- The port, the identifier and the data of a command that is a received frame (Table 10-1). -/
def receivedFrame : Instr → Option (Port × Nat × List Byte)
  | .tracks data => some (.vPort, 0x1C0, data)
  | .trackEnd data => some (.vPort, 0x1C1, data)
  | .lane data => some (.vPort, 0x1C2, data)
  | .scene data => some (.vPort, 0x1C3, data)
  | .motion data => some (.cPort, 0x260, data)
  | .driver data => some (.cPort, 0x261, data)
  | .calSet data => some (.cPort, 0x268, data)
  | .calDone data => some (.cPort, 0x269, data)
  | .configEnter data => some (.cPort, 0x26A, data)
  | .restart data => some (.cPort, 0x26B, data)
  | .distData data => some (.cPort, 0x270, data)
  | .distDrop data => some (.cPort, 0x271, data)
  | .distClear data => some (.cPort, 0x272, data)
  | .distLock data => some (.cPort, 0x273, data)
  | .clearFaults data => some (.cPort, 0x274, data)
  | .noticeMask data => some (.cPort, 0x275, data)
  | .clearNotices data => some (.cPort, 0x276, data)
  | .diagReadTrackEntry data => some (.cPort, 0x277, data)
  | .diagReadFrameBlock data => some (.cPort, 0x277, data)
  | .diagReadCaptureRecord data => some (.cPort, 0x277, data)
  | .diagReadCacheSlot data => some (.cPort, 0x277, data)
  | .diagReadLookupHistory data => some (.cPort, 0x277, data)
  | .releaseTimerExpiry _ => none
  | .trackAgeExpiry _ => none
  | .presenceStale => none
  | .presenceLost => none
  | .flashExpiry => none
  | .visionLoss => none
  | .buildTimerExpiry => none
  | .computeComplete => none
  | .commitBlockWriteDone => none
  | .commitHeaderWriteDone => none
  | .linkHeaderReadDone _ => none
  | .linkBlockReadDone _ => none
  | .blockCompareDone _ => none
  | .diagBlockReadDone => none
  | .linkFrameSendEnd _ => none
  | .lampState _ _ => none
  | .statusTimerExpiry _ => none
  | .fetch _ _ => none
  | .ack _ _ => none
  | .retry _ _ => none
  | .replyTimeout _ => none
  | .quit _ _ => none
  | .requestTimerExpiry => none
  | .powerOnReset => none
  | .busOff _ => none
  | .busOffRecovery _ => none
  | .transmissionEnd _ => none

/-- The lengths of Table 10-1; a TRACKS of `n` records is the shortest CAN FD length that holds 4 + 10 × n bytes (R173). -/
def tableLengths (data : List Byte) : List (Nat × List Nat) :=
  [(0x1C0, match byteAt data 0 with
      | 1 => [16]
      | 2 => [24]
      | 3 => [48]
      | 4 => [48]
      | 5 => [64]
      | 6 => [64]
      | _ => []),
   (0x1C1, [1]), (0x1C2, [3]), (0x1C3, [3]), (0x260, [12]), (0x261, [1]), (0x268, [3]), (0x269, [0]), (0x26A, [0]),
   (0x26B, [0]), (0x270, [64]), (0x271, [1]), (0x272, [0]), (0x273, [1]), (0x274, [3]), (0x275, [1]), (0x276, [1]),
   (0x277, [4])]

/-- A received frame has the length of its message. -/
def LengthFits (identifier : Nat) (data : List Byte) : Prop :=
  ∃ lengths, (identifier, lengths) ∈ tableLengths data ∧ data.length ∈ lengths

/-- A port's controller is bus-off. -/
def State.portOff (s : State) : Port → Bool
  | .vPort => s.vPort.busOff
  | .cPort => s.cPort.busOff

/-- The other link. -/
def otherSide : Side → Side
  | .left => .right
  | .right => .left

/-- What no command of a link changes: every block but the store, this link, the diagnostic unit and the ports; and every frame
memory. -/
def LinkFrame (x : Side) (s t : State) : Prop :=
  t.pending = s.pending ∧ t.operating = s.operating ∧ t.working = s.working ∧ t.committed = s.committed ∧
    t.tracks = s.tracks ∧ t.motion = s.motion ∧ t.selector = s.selector ∧ t.vision = s.vision ∧ t.cache = s.cache ∧
    t.builder = s.builder ∧ t.freeIndex = s.freeIndex ∧ t.link (otherSide x) = s.link (otherSide x) ∧
    ∀ i : Fin 6, (t.store.slot i).memory = (s.store.slot i).memory

/-- The access is a diagnostic block read. -/
def PortAccess.isDiag : PortAccess → Bool
  | .diagRead _ _ _ => true
  | _ => false

/-- No diagnostic request waits to be granted at an idle port. -/
def NoDiagAtIdlePort (st : FrameStore) : Prop :=
  st.busy.isSome = true ∨ ∀ r : Requester, ∀ a ∈ st.waiting r, a.isDiag = false

/-- The diagnostic unit, the ports and the reader are those of `s`. -/
def SamePorts (s t : State) : Prop := t.diag = s.diag ∧ t.vPort = s.vPort ∧ t.cPort = s.cPort ∧ t.reader = s.reader

/-- The access a link waits for, or is making with its result still wanted. -/
def FrameStore.linkAsks (st : FrameStore) (x : Side) : Option PortAccess :=
  (st.waiting (linkRequester x)).or
    (((st.accessOf (linkRequester x)).filter (·.wanted)).map (·.access))

/-- The slot table after X-incoming has left the holder set it stood in, with R125 applied (R129). -/
def IncomingReleased (x : Side) (s t : State) : Prop :=
  ∀ i : Fin 6,
    let sl := s.store.slot i
    let left := sl.holders.put x .incoming false
    t.store.slot i =
      if sl.holders.has x .incoming then
        if sl.state = .stored ∧ sl.newest = false ∧ left = noHolders then
          { sl with state := .free, holders := left, sequence := none }
        else { sl with holders := left }
      else sl

/-- An attempt of the current step of transfer `t` has begun on link `x`: the reply timer runs from 0, HEADER and BLOCK have asked
for their read, END is on the wire or waits for the frame on it (R146). -/
def AttemptBegun (x : Side) (t : Transfer) (s u : State) : Prop :=
  let l := s.link x
  let timed := { l with transfer := some { t with replyTimer := some 0 }, waiting := none }
  match t.step with
  | .compare => u.link x = timed
  | .header => u.link x = timed ∧ u.store.linkAsks x = some (.headerRead t.slot)
  | .block k => u.link x = timed ∧ u.store.linkAsks x = some (.blockRead t.slot x k)
  | .finish =>
    let bytes := withCrc ([0x12, putByte t.tag] ++ put16 t.sequence)
    u.store.linkAsks x = none ∧
      u.link x = if l.wire.isNone then { timed with wire := some bytes } else { timed with waiting := some bytes }

/-- The port after link `x` has given up what it asked for, and asks for `own` (R133, R147, R151): its access under way is no longer
wanted; the other requesters' requests and access are as they were, and so is the last-granted requester. -/
def PortKept (x : Side) (own : Option PortAccess) (s u : State) : Prop :=
  u.store.waiting (linkRequester x) = own ∧ (∀ r, r ≠ linkRequester x → u.store.waiting r = s.store.waiting r) ∧
    u.store.lastGranted = s.store.lastGranted ∧
    u.store.busy = s.store.busy.map fun w => if w.requester = linkRequester x then { w with wanted := false } else w

/-- The port after link `x` has asked for `access` in place of what it asked for before: at a busy port it waits, and at an idle port
where nobody else waits it is granted at once (R132). -/
def PortAsked (x : Side) (access : PortAccess) (s u : State) : Prop :=
  (s.store.busy.isSome = true → PortKept x (some access) s u) ∧
    (s.store.busy = none → (∀ r, r ≠ linkRequester x → s.store.waiting r = none) →
      u.store.busy = some { requester := linkRequester x, access := access, wanted := true, found := none } ∧
        u.store.lastGranted = linkRequester x ∧ ∀ r, u.store.waiting r = none)

/-- The port after an attempt of the current step of transfer `t` has begun on link `x`: HEADER and BLOCK ask for their read, END for
nothing (R146). -/
def AttemptPort (x : Side) (t : Transfer) (s u : State) : Prop :=
  match t.step with
  | .header => PortAsked x (.headerRead t.slot) s u
  | .block k => PortAsked x (.blockRead t.slot x k) s u
  | .compare => PortKept x none s u
  | .finish => PortKept x none s u

/-- The port after the LIMP frame's installation (R130, R132, R133): no access is under way but a diagnostic read's; COMMIT and the
links wait for nothing. A diagnostic read that was under way, or else waited, is served afresh against the installed store, in which
slot 0 alone is STORED; without one the port is free and the last-granted requester is kept. That the read's grant is made in the same
command, with DIAG as the last-granted requester from then on, is the model's choice (log 24). -/
def PortInstalled (s u : State) : Prop :=
  let asked := match s.store.accessOf .diag with
    | some w => some w.access
    | none => s.store.waitDiag
  (∀ w ∈ u.store.busy, w.requester = .diag) ∧
    u.store.waitCommit = none ∧ u.store.waitLinkL = none ∧ u.store.waitLinkR = none ∧
    (asked = none →
      u.store.busy = none ∧ u.store.waitDiag = none ∧ u.store.lastGranted = s.store.lastGranted ∧
        u.cPort.diagReply = s.cPort.diagReply) ∧
    ∀ (i : Fin 6) (x : Side) (k : Fin 5), asked = some (.diagRead i x k) →
      u.store.waitDiag = none ∧ u.store.lastGranted = .diag ∧
        (i = 0 →
          u.store.busy = some
              { requester := .diag, access := .diagRead i x k, wanted := true
                found := some
                  { newest := true, holders := noHolders, sequence := 0, values := List.replicate 24 0 } } ∧
            u.cPort.diagReply = s.cPort.diagReply) ∧
        (i ≠ 0 → ∀ read ∈ s.reader, u.cPort.diagReply = some { read := read, data := .empty })

/-! ## Track table (R1, R2) -/

/-- An entry's fields lie in the ranges of Table 1-1. -/
def TrackEntry.InRange (e : TrackEntry) : Prop :=
  1 ≤ e.id ∧ e.id ≤ 254 ∧ -3000 ≤ e.thetaL ∧ e.thetaL ≤ e.thetaR ∧ e.thetaR ≤ 3000 ∧ -1000 ≤ e.phiT ∧ e.phiT ≤ 1000 ∧
    e.dist ≤ 5000 ∧ e.conf ≤ 100

/-- The track table holds at most 24 entries, no two of one id, each in range. -/
def TrackTableInv (s : State) : Prop :=
  s.tracks.length ≤ 24 ∧ (s.tracks.map (·.id)).Nodup ∧ ∀ e ∈ s.tracks, e.InRange

/-! ## What the part sends (R176 to R178, 10.4) -/

/-- What every STATUS reports as it stands when it is made (R177): the operating state, the link states, the supply-ok flags, clear
for a DOWN link, the pending set and the fault summary. -/
def StatusReport.AsStands (r : StatusReport) (u : State) : Prop :=
  r.operating = u.operating ∧ (r.upL = true ↔ u.linkL.state = .up) ∧ (r.upR = true ↔ u.linkR.state = .up) ∧
    (r.supplyL = true ↔ u.linkL.state = .up ∧ u.linkL.supplyOk = some true) ∧
    (r.supplyR = true ↔ u.linkR.state = .up ∧ u.linkR.supplyOk = some true) ∧
    r.notices = u.diag.notices ∧ r.summary = u.diag.summary

/-- A STATUS made at no commit (R177): the frame fields are the newest frame's, the selection fields are derived when it is made. -/
def StatusReport.OfChange (r : StatusReport) (u : State) : Prop :=
  r.AsStands u ∧ r.atCommit = false ∧
    (∀ i : Fin 6, (u.store.slot i).newest = true → (∀ j, (u.store.slot j).newest = true → j = i) →
      r.header = (u.store.slot i).memory.header) ∧
    r.selection = Sys2Proof.Machine.selection u ∧ r.roadClass = u.selector.roadClass ∧ r.request = u.selector.request ∧
    r.source = (curvature ((activeCal u).nat .laneConfMin) u.motion).2

/-- LITMAP's bytes: the sequence, then six maps of five bytes, column 0 in bit 7 of a map's first byte. -/
def LitMap.LayoutOk (m : LitMap) : Prop :=
  m.sequence ≤ 65535 → m.maps.length = 6 → (∀ marks ∈ m.maps, marks.length = 40) →
    m.bytes.length = 32 ∧ unsigned16 m.bytes 0 = m.sequence ∧
      ∀ k c : Nat, k < 6 → c < 40 →
        bitAt m.bytes (2 + 5 * k + c / 8) (7 - c % 8) = (m.maps.getD k []).getD c false

/-- A signed value fits a two-byte field. -/
def FitsSigned16 (i : Int) : Prop := -32768 ≤ i ∧ i ≤ 32767

/-- Fields as they are sent (10.4): a byte, a two-byte field, most significant byte first, a signed one in two's complement, and a byte
of flags. -/
def SentFieldsOk : Prop :=
  (∀ n : Nat, n ≤ 255 → (putByte n).toNat = n) ∧
    (∀ n : Nat, n ≤ 65535 → put16 n = [putByte (n / 256), putByte (n % 256)]) ∧
    (∀ i : Int, FitsSigned16 i → (putSigned16 i).length = 2 ∧ signed16 (putSigned16 i) 0 = i) ∧
    ∀ marks : List Bool, marks.length ≤ 8 → ∀ i : Nat, i < 8 → (flagByte marks).getLsbD i = marks.getD i false

/-- The CRC-16 of 10.4, bit by bit: generator x¹⁶ + x¹² + x⁵ + 1, initial value 0xFFFF, each byte's most significant bit first, nothing
reflected, no final inversion; a frame ends in its CRC, most significant byte first. -/
def CrcOk : Prop :=
  let step := fun (crc : BitVec 16) (bit : Bool) => if crc.msb != bit then (crc <<< 1) ^^^ 0x1021#16 else crc <<< 1
  crc16 [] = 0xFFFF#16 ∧
    (∀ (bytes : List Byte) (b : Byte),
      crc16 (bytes ++ [b]) = [7, 6, 5, 4, 3, 2, 1, 0].foldl (fun crc i => step crc (b.getLsbD i)) (crc16 bytes)) ∧
    (∀ bytes : List Byte, withCrc bytes = bytes ++ [(crc16 bytes).extractLsb' 8 8, (crc16 bytes).extractLsb' 0 8]) ∧
    crc16 [0x31, 0x32, 0x33, 0x34, 0x35, 0x36, 0x37, 0x38, 0x39] = 0x29B1#16

/-- The modes in the order of their codes (Table 10-2). -/
def modesByCode : List BeamMode := [.dark, .low, .town, .country, .motorway, .mountain, .weather, .full]

/-- The fallback reasons in the order of their codes. -/
def reasonsByCode : List FallbackReason := [.noFallback, .motionLost, .visionLost, .distMissing, .speedLow, .daylight]

/-- STATUS's bytes (Table 10-5), but for the bits no field takes (log 23). -/
def StatusReport.LayoutOk (r : StatusReport) : Prop :=
  let b := r.bytes
  let bits13 := [r.upL, r.upR, r.supplyL, r.supplyR, r.header.yellowL, r.header.yellowR, r.header.clampedL, r.header.clampedR]
  r.header.sequence ≤ 65535 → FitsSigned16 r.header.bend → FitsSigned16 r.header.level →
    b.length = 20 ∧ bitAt b 0 0 = (r.operating == .run) ∧ bitAt b 0 1 = r.atCommit ∧ bitAt b 0 2 = r.header.distHeld ∧
      unsigned16 b 1 = r.header.sequence ∧
      modesByCode[byteAt b 3]? = some r.header.mode ∧ reasonsByCode[byteAt b 4]? = some r.header.reason ∧
      modesByCode[byteAt b 5]? = some r.selection.mode ∧ reasonsByCode[byteAt b 6]? = some r.selection.reason ∧
      [RoadClass.town, .winding, .motorway, .rural][byteAt b 7 % 4]? = some r.roadClass ∧
      [CurvatureSource.noSource, .vision, .yaw][byteAt b 7 / 4 % 4]? = some r.source ∧
      [DriverRequest.steady .off, .steady .low, .steady .auto, .steady .high, .flash][byteAt b 8]? = some r.request ∧
      signed16 b 9 = r.header.bend ∧ signed16 b 11 = r.header.level ∧
      (∀ i : Nat, i < 8 → bitAt b 13 i = bits13.getD i false) ∧
      byteAt b 14 = r.notices.toNat ∧ unsigned16 b 15 = r.summary.toNat ∧
      byteAt b 17 = 0 ∧ byteAt b 18 = 0 ∧ byteAt b 19 = 0

/-- The item bytes of a capture's reply, at bytes 10 to 12: the fields of Table 9-3 in order. -/
def FaultItem.LayoutOk (item : FaultItem) (b : List Byte) : Prop :=
  match item with
  | .distCause id cause =>
    (id ≤ 31 → byteAt b 10 = id) ∧ [UnavailableCause.unanswered, .noRoom][byteAt b 11]? = some cause
  | .dist id => id ≤ 31 → byteAt b 10 = id
  | .step s =>
    s ≠ .compare → [TransferStep.header, .block 0, .block 1, .block 2, .block 3, .block 4, .finish][byteAt b 10]? = some s
  | .track id index => (id ≤ 254 → byteAt b 10 = id) ∧ (index ≤ 5 → byteAt b 11 = index)
  | .message identifier index => (identifier ≤ 65535 → unsigned16 b 10 = identifier) ∧ (index ≤ 5 → byteAt b 12 = index)
  | .request identifier number =>
    (identifier ≤ 65535 → unsigned16 b 10 = identifier) ∧ ∀ n ∈ number, n ≤ 255 → byteAt b 12 = n
  | .param p => byteAt b 10 = p.id

/-- DIAG_REPLY's data, from byte 5 on, by target (10.4). -/
def DiagData.LayoutOk (d : DiagData) (b : List Byte) : Prop :=
  match d with
  | .empty => b.length = 48 ∧ byteAt b 4 = 1
  | .track e =>
    e.InRange → e.age ≤ 65535 →
      b.length = 48 ∧ byteAt b 4 = 0 ∧ byteAt b 5 = e.id ∧
        [TrackClass.oncoming, .preceding, .sign, .otherLight][byteAt b 6]? = some e.cls ∧
        signed16 b 7 = e.thetaL ∧ signed16 b 9 = e.thetaR ∧ signed16 b 11 = e.phiT ∧ unsigned16 b 13 = e.dist ∧
        byteAt b 15 = e.conf ∧ unsigned16 b 17 = e.age ∧
        match e.life with
        | .live => byteAt b 16 = 0 ∧ unsigned16 b 19 = 0xFFFF
        | .releasing remaining => byteAt b 16 = 1 ∧ (remaining ≤ 65535 → unsigned16 b 19 = remaining)
  | .frameBlock d =>
    d.sequence ≤ 65535 → d.values.length = 24 → (∀ v ∈ d.values, v ≤ 255) →
      b.length = 48 ∧ byteAt b 4 = 0 ∧ byteAt b 5 = d.newest.toNat ∧ bitAt b 6 0 = d.holders.leftApplied ∧
        bitAt b 6 1 = d.holders.leftIncoming ∧ bitAt b 6 2 = d.holders.rightApplied ∧
        bitAt b 6 3 = d.holders.rightIncoming ∧ unsigned16 b 7 = d.sequence ∧
        ∀ i : Nat, i < 24 → byteAt b (9 + i) = d.values.getD i 0
  | .capture c =>
    b.length = 48 ∧ byteAt b 4 = 0 ∧ byteAt b 5 = c.report.kind.order ∧ bitAt b 6 0 = c.report.sequence.isSome ∧
      bitAt b 6 1 = c.report.link.isSome ∧ bitAt b 6 2 = c.report.item.isSome ∧
      (∀ n ∈ c.report.sequence, n ≤ 65535 → unsigned16 b 7 = n) ∧
      (∀ x ∈ c.report.link, [Side.left, .right][byteAt b 9]? = some x) ∧
      (∀ item ∈ c.report.item, item.LayoutOk b) ∧ byteAt b 13 = c.further.toNat
  | .cacheSlot d =>
    b.length = 48 ∧ byteAt b 4 = 0 ∧ byteAt b 5 = d.valid.toNat ∧ (d.tag = none → byteAt b 6 = 0xFF) ∧
      (∀ tag ∈ d.tag, tag ≤ 31 → byteAt b 6 = tag) ∧ byteAt b 7 = d.locked.toNat ∧ byteAt b 8 = d.disabled.toNat ∧
      (d.lastUse ≤ 65535 → unsigned16 b 9 = d.lastUse)
  | .history entries =>
    entries.length ≤ 8 →
      b.length = 48 ∧ byteAt b 4 = 0 ∧ byteAt b 5 = entries.length ∧
        ∀ (i : Nat) (e : HistoryEntry), entries[i]? = some e →
          (e.id ≤ 31 → byteAt b (6 + 2 * i) = e.id) ∧ [LookupOutcome.hit, .miss][byteAt b (7 + 2 * i)]? = some e.outcome

/-- DIAG_REPLY's bytes: the DIAG_READ's four bytes, then byte 4 and the data. -/
def DiagReply.LayoutOk (r : DiagReply) : Prop :=
  r.read.length = 4 → r.bytes.take 4 = r.read ∧ r.data.LayoutOk r.bytes

/-! ## Calibration, operating state and the timers it bounds (R2, R84, R179, R180) -/

/-- Table 10-7, ids 1 to 24: id, parameter, lower and upper end of the range, default. -/
def calibrationRowsLow : List (Nat × Param × Int × Int × Int) :=
  [(1, .confMin, 0, 100, 30), (2, .releaseHold, 0, 200, 40), (3, .trackExpiry, 60, 500, 150), (4, .coastStart, 0, 499, 60),
   (5, .coastGrow, 0, 50, 10), (6, .laneConfMin, 0, 100, 50), (7, .tPrev, 500, 3000, 1500), (8, .bendGain, 0, 511, 256),
   (9, .bendMax, 0, 1500, 800), (10, .bendStep, 1, 200, 40), (11, .levelOffset, -300, 300, 0), (12, .flashMax, 200, 5000, 3000),
   (13, .dayLux, 0, 10000, 1000), (14, .adbOn, 0, 4000, 800), (15, .adbOff, 0, 4000, 600), (16, .townLights, 1, 24, 4),
   (17, .confirmN, 1, 50, 10), (18, .confirmWinding, 1, 50, 3), (19, .modeDistTown, 0, 31, 0), (20, .modeDistCountry, 0, 31, 1),
   (21, .modeDistMotorway, 0, 31, 2), (22, .modeDistMountain, 0, 31, 3), (23, .modeDistWeather, 0, 31, 4),
   (24, .modeDistFull, 0, 31, 5)]

/-- Table 10-7, ids 25 to 49. -/
def calibrationRowsHigh : List (Nat × Param × Int × Int × Int) :=
  [(25, .buildPeriod, 10, 50, 20), (26, .lampOffsetL, -2000, 2000, -1050), (27, .lampOffsetR, -2000, 2000, 1050),
   (28, .camHeight, 0, 3000, 1400), (29, .dFar, 30, 5000, 2000), (30, .marginHOncoming, 0, 300, 40),
   (31, .marginVOncoming, 0, 300, 30), (32, .marginHPreceding, 0, 300, 25), (33, .marginVPreceding, 0, 300, 20),
   (34, .marginHSign, 0, 300, 10), (35, .marginVSign, 0, 300, 0), (36, .shadeLevel, 0, 255, 0), (37, .signLevel, 0, 255, 64),
   (38, .rowEdge0, -1000, 1000, -60), (39, .rowEdge1, -1000, 1000, 40), (40, .rowEdge2, -1000, 1000, 140),
   (41, .rowEdgeTop, -1000, 1000, 300), (42, .shoulder, 0, 256, 128), (43, .rise, 1, 255, 16), (44, .budget, 0, 30600, 24000),
   (45, .budgetMin, 0, 30600, 6000), (46, .derate, 0, 1000, 150), (47, .tKnee, -40, 150, 85), (48, .yellowBand, 0, 4096, 1024),
   (49, .deadLimit, 1, 16, 12)]

/-- The calibration store: every parameter has its row of Table 10-7, a value put stands under its parameter alone, and a block that runs
in both operating states reads the committed set in RUN and the working set in CONFIG. -/
def CalibrationOk : Prop :=
  (∀ row ∈ calibrationRowsLow ++ calibrationRowsHigh,
    row.2.1.id = row.1 ∧ row.2.1.range = (row.2.2.1, row.2.2.2.1) ∧ row.2.1.default = row.2.2.2.2) ∧
    (∀ p : Param, ∃ row ∈ calibrationRowsLow ++ calibrationRowsHigh, row.2.1 = p) ∧
    (∀ (c : CalSet) (p q : Param) (v : Int), (c.put p v).get q = if q = p then v else c.get q) ∧
    (∀ (c : CalSet) (p : Param), c.nat p = (c.get p).toNat) ∧
    (∀ s : State, s.operating = .config → activeCal s = s.working) ∧
    ∀ (s : State) (c : CalSet), s.committed = some c →
      committedCal s = c ∧ (s.operating = .run → activeCal s = c)

/-- Every value of a parameter set lies in its parameter's range. -/
def CalSet.InRange (c : CalSet) : Prop := ∀ p ∈ Param.all, p.range.1 ≤ c.get p ∧ c.get p ≤ p.range.2

/-- Both sets lie in their ranges, the committed set passes the cross-checks, and RUN has a committed set. -/
def CalibrationInv (s : State) : Prop :=
  s.working.InRange ∧ (∀ c ∈ s.committed, c.InRange ∧ crossCheck c = none) ∧
    (s.operating = .run → s.committed.isSome = true)

/-- An entry's age and release timer lie below their limits. -/
def TrackEntry.TimesOk (expiry hold : Nat) (e : TrackEntry) : Prop :=
  e.age < expiry ∧
    match e.life with
    | .live => True
    | .releasing remaining => remaining ≤ hold

/-- The flash timer lies below its limit. -/
def FlashState.TimeOk (limit : Nat) : FlashState → Prop
  | .active elapsed => elapsed < limit
  | _ => True

/-- CONFIG has no entry, no build timer and no build; RUN has a build timer below build_period; entries and a flash are within
their times. -/
def TimesInv (s : State) : Prop :=
  (s.operating = .config → s.tracks = [] ∧ s.builder.timer = none ∧ s.builder.phase.build = none) ∧
    (s.operating = .run → ∃ n ∈ s.builder.timer, n < (committedCal s).nat .buildPeriod) ∧
    (∀ e ∈ s.tracks, e.TimesOk ((activeCal s).nat .trackExpiry) ((activeCal s).nat .releaseHold)) ∧
    s.selector.flash.TimeOk ((activeCal s).nat .flashMax)

/-! ## Motion unit, mode selector, vision presence (R24 to R28, R48, R52, R54, R56) -/

/-- The motion record's fields lie in the ranges of R24. -/
def MotionRecord.InRange (r : MotionRecord) : Prop :=
  r.v ≤ 4000 ∧ -10000 ≤ r.omega ∧ r.omega ≤ 10000 ∧ -500 ≤ r.pCab ∧ r.pCab ≤ 500 ∧ -500 ≤ r.pCh ∧ r.pCh ≤ 500 ∧ r.alive ≤ 15

/-- Presence and its timer agree: FRESH under 100 ms, STALE from 100 ms under 500 ms, both with a record; LOST without a running
timer. -/
def MotionUnit.PresenceOk (u : MotionUnit) : Prop :=
  match u.presence with
  | .fresh => u.record.isSome = true ∧ ∃ n ∈ u.timer, n < 100
  | .stale => u.record.isSome = true ∧ ∃ n ∈ u.timer, 100 ≤ n ∧ n < 500
  | .lost => u.timer = none

/-- The motion unit: ranges, presence, and the frozen-raised flag set exactly from the third repeat of a run on. -/
def MotionInv (s : State) : Prop :=
  (∀ r ∈ s.motion.record, r.InRange) ∧ s.motion.PresenceOk ∧ (s.motion.frozenRaised = true ↔ 3 ≤ s.motion.runCount) ∧
    (∀ l ∈ s.motion.lane, -20000 ≤ l.kappa ∧ l.kappa ≤ 20000 ∧ l.conf ≤ 100)

/-- The request is FLASH exactly while a flash is in progress, and else the last non-FLASH request. -/
def ModeSelector.RequestOk (m : ModeSelector) : Prop :=
  match m.flash with
  | .active _ => m.request = .flash
  | _ => m.request = .steady m.lastSteady

/-- The confirmation record: no candidate with count 0, or a candidate other than the class with a count of at least 1. -/
def ModeSelector.RecordOk (m : ModeSelector) : Prop :=
  match m.candidate with
  | none => m.count = 0
  | some c => c ≠ m.roadClass ∧ 1 ≤ m.count

/-- The mode selector, with the gate CLOSED while motion is LOST. -/
def SelectorInv (s : State) : Prop :=
  s.selector.RequestOk ∧ s.selector.RecordOk ∧ (∀ lux ∈ s.selector.scene.ambient, lux ≤ 10000) ∧
    (s.motion.presence = .lost → s.selector.gate = .closed)

/-- Vision presence: PRESENT exactly while its timer runs, under 200 ms. -/
def VisionInv (s : State) : Prop :=
  (s.vision.present = true ↔ s.vision.timer.isSome = true) ∧ ∀ n ∈ s.vision.timer, n < 200

/-- The three together. -/
def PresenceInv (s : State) : Prop := MotionInv s ∧ SelectorInv s ∧ VisionInv s

/-! ## Distribution cache (R63, R68, R70, R72, R75) -/

/-- A cache slot at its place: a valid slot has a tag, an invalid one has a tag only while locked, a tag belongs to the slot's
set, and it holds 120 values. -/
def CacheSlot.PlaceOk (lockLevel : Nat) (i : Fin 8) (sl : CacheSlot) : Prop :=
  (sl.valid = true → sl.tag.isSome = true) ∧
    (sl.valid = false → sl.tag.isSome = true → lockedUnder lockLevel (wayOfIndex i) = true) ∧
    (∀ d ∈ sl.tag, d ≤ 31 ∧ d % 4 = i.val / 2) ∧ sl.values.length = 120

/-- The distribution cache: no id is the tag of two slots; each slot is as its place allows; the buffers keep their sizes. -/
def CacheInv (s : State) : Prop :=
  (∀ i j : Fin 8, ∀ d ∈ (s.cache.slots.get i).tag, (s.cache.slots.get j).tag = some d → i = j) ∧
    (∀ i : Fin 8, (s.cache.slots.get i).PlaceOk s.cache.lockLevel i) ∧
    s.cache.lockLevel ≤ 2 ∧ s.cache.history.length ≤ 8 ∧ s.cache.failed.Nodup ∧ (∀ d ∈ s.cache.failed, d ≤ 31) ∧
    (∀ r ∈ s.cache.request, 1 ≤ r.sends ∧ r.sends ≤ 3 ∧ r.timer < 250) ∧
    (∀ f ∈ s.cache.fill, f.id ≤ 31 ∧ f.values.length = 60)

/-! ## Frame store (R124, R125, R153) -/

/-- A slot's bookkeeping is that of its state (R124): STORED has a sequence and is newest or held; FREE and BUILDING have neither
mark, holder nor sequence. -/
def FrameSlot.StateOk (sl : FrameSlot) : Prop :=
  match sl.state with
  | .stored => sl.sequence.isSome = true ∧ (sl.newest = true ∨ sl.holders ≠ noHolders)
  | _ => sl.newest = false ∧ sl.holders = noHolders ∧ sl.sequence = none

/-- The slots that a link's roles stand in are those of its own record, with their sequences (R142, R153). -/
def HoldsAgree (s : State) (x : Side) : Prop :=
  (∀ i : Fin 6, (s.store.slot i).holders.has x .applied = true ↔ (s.link x).applied.map (·.slot) = some i) ∧
    (∀ i : Fin 6, (s.store.slot i).holders.has x .incoming = true ↔ (s.link x).transfer.map (·.slot) = some i) ∧
    (∀ a ∈ (s.link x).applied, (s.store.slot a.slot).sequence = some a.sequence) ∧
    (∀ t ∈ (s.link x).transfer, (s.store.slot t.slot).sequence = some t.sequence)

/-- The frame store: exactly one slot is newest; each slot is as its state says; the one BUILDING slot is that of the build in
flight; the holders are those of the links' records. -/
def StoreInv (s : State) : Prop :=
  (∃ i : Fin 6, (s.store.slot i).newest = true) ∧
    (∀ i j : Fin 6, (s.store.slot i).newest = true → (s.store.slot j).newest = true → i = j) ∧
    (∀ i : Fin 6, (s.store.slot i).StateOk) ∧
    (∀ i : Fin 6, (s.store.slot i).state = .building ↔ s.builder.phase.build.map (·.slot) = some i) ∧
    HoldsAgree s .left ∧ HoldsAgree s .right

/-! ## The newest frame and the commit (R87, R90, R92, R124) -/

/-- A slot's frame memory holds the frame of the builder's mirror (R90). -/
def FrameMemory.Holds (m : FrameMemory) (f : Mirror) : Prop :=
  m.header.sequence = f.sequence ∧ m.header.mode = f.mode ∧ m.header.reason = f.reason ∧ m.header.bend = f.bend ∧
    m.header.level = f.level ∧
    ∀ k : Fin 5, m.block .left k = blockValues f.left k ∧ m.block .right k = blockValues f.right k

/-- The newest slot holds the frame of the mirror, under the mirror's sequence. -/
def MirrorAgrees (s : State) : Prop :=
  ∀ i : Fin 6, (s.store.slot i).newest = true →
    (s.store.slot i).sequence = some s.builder.mirror.sequence ∧ (s.store.slot i).memory.Holds s.builder.mirror

/-- The build in flight: its sequence follows the newest frame's, and its snapshot's previous frame is the mirror (R87, R88). -/
def InFlightOk (s : State) : Prop :=
  ∀ b ∈ s.builder.phase.build,
    b.sequence = nextSequence s.builder.mirror.sequence ∧ b.snapshot.previous = s.builder.mirror

/-- COMMIT asks for, or is making, exactly its next write. -/
def CommitAsks (st : FrameStore) (n : Nat) : Prop :=
  (st.waitCommit = some (commitWrite n) ∧ st.accessOf .commit = none) ∨
    (st.waitCommit = none ∧ (st.accessOf .commit).map (·.access) = some (commitWrite n))

/-- The commit: with `n` of its writes done, those blocks stand in its slot and it asks for the next write; without a commit,
COMMIT asks for nothing (R92). -/
def CommitOk (s : State) : Prop :=
  match s.builder.phase with
  | .committing b f n =>
    n ≤ 10 ∧ f.header.sequence = b.sequence ∧ CommitAsks s.store n ∧
      ∀ k : Fin 5,
        (k.val < n → (s.store.slot b.slot).memory.block .left k = blockValues f.left k) ∧
          (k.val + 5 < n → (s.store.slot b.slot).memory.block .right k = blockValues f.right k)
  | _ => s.store.waitCommit = none ∧ s.store.accessOf .commit = none

/-- The frame store with the newest frame's contents. -/
def NewestFrameInv (s : State) : Prop := StoreInv s ∧ MirrorAgrees s ∧ InFlightOk s ∧ CommitOk s

/-! ## Lamp links (R136, R137, R139, R142, R146) -/

/-- A link's own state: a DOWN link has no status, transfer or hold; an UP link has a running status timer and a lamp status. -/
def LampLink.StateOk (l : LampLink) : Prop :=
  match l.state with
  | .down =>
    l.statusTimer = none ∧ l.temp = none ∧ l.supplyOk = none ∧ l.dead = [] ∧ l.deadLimitFlag = false ∧
      l.transfer = none ∧ l.applied = none
  | .up => (∃ n ∈ l.statusTimer, n < 300) ∧ (∃ c ∈ l.temp, -40 ≤ c ∧ c ≤ 150) ∧ l.supplyOk.isSome = true

/-- A transfer record's fields (Table 8-2): the link's latest tag, at most three resends, the reply timer running under 5 ms except
in COMPARE, the map in ascending order, a BLOCK step of the map, and no block and no compare under SAME. -/
def Transfer.RecordOk (tagCounter : Nat) (t : Transfer) : Prop :=
  t.tag = tagCounter ∧ t.retries ≤ 3 ∧ (t.replyTimer = none ↔ t.step = .compare) ∧ (∀ n ∈ t.replyTimer, n < 5) ∧
    t.map.Pairwise (· < ·) ∧ (∀ k : Fin 5, t.step = .block k → k ∈ t.map) ∧ (t.same = true → t.map = [] ∧ t.step ≠ .compare)

/-- A link's fields. -/
def LampLink.FieldsOk (l : LampLink) : Prop :=
  l.StateOk ∧ l.dead.Pairwise (· < ·) ∧ (∀ i ∈ l.dead, i < 120) ∧ l.dead.length ≤ 16 ∧ l.tagCounter < 16 ∧
    (∀ t ∈ l.transfer, t.RecordOk l.tagCounter) ∧ (l.wire = none → l.waiting = none)

/-- A link never waits beside a wanted access of its own. -/
def OneRequest (st : FrameStore) (x : Side) : Prop :=
  st.waiting (linkRequester x) = none ∨ ∀ u ∈ st.accessOf (linkRequester x), u.wanted = false

/-- A link asks only for what its current step needs of the slots it holds (R131, R144, R146). -/
def LinkWork (s : State) (x : Side) : Prop :=
  match (s.link x).transfer with
  | none => s.store.linkAsks x = none
  | some t =>
    match t.step with
    | .compare =>
      ∃ a ∈ (s.link x).applied, ∃ k : Fin 5,
        s.store.linkAsks x = some (.compare t.slot a.slot x k) ∧ ∀ j ∈ t.map, j < k
    | .header => s.store.linkAsks x = none ∨ s.store.linkAsks x = some (.headerRead t.slot)
    | .block k => s.store.linkAsks x = none ∨ s.store.linkAsks x = some (.blockRead t.slot x k)
    | .finish => s.store.linkAsks x = none

/-- Both lamp links. -/
def LinksInv (s : State) : Prop :=
  s.linkL.FieldsOk ∧ s.linkR.FieldsOk ∧ OneRequest s.store .left ∧ OneRequest s.store .right ∧ LinkWork s .left ∧
    LinkWork s .right

/-! ## Segment values (R116) -/

/-- Every value lies in 0 to 255. -/
def InByte (values : List Nat) : Prop := ∀ v ∈ values, v ≤ 255

/-- The frame a build is committing. -/
def BuilderPhase.frame : BuilderPhase → Option Frame
  | .committing _ f _ => some f
  | _ => none

/-- Every segment value and every distribution value of the part lies in 0 to 255. -/
def SegmentInv (s : State) : Prop :=
  (∀ i : Fin 8, InByte (s.cache.slots.get i).values) ∧ (∀ f ∈ s.cache.fill, InByte f.values) ∧
    (∀ w ∈ s.builder.workingCopy, InByte w) ∧ InByte s.builder.mirror.left ∧ InByte s.builder.mirror.right ∧
    (∀ f ∈ s.builder.phase.frame, InByte f.left ∧ InByte f.right) ∧
    (∀ i : Fin 6, ∀ k : Fin 5,
      InByte ((s.store.slot i).memory.block .left k) ∧ InByte ((s.store.slot i).memory.block .right k))

/-! ## Ports and diagnostic reader (R132, R174, R175, R178) -/

/-- The V-port sends nothing while bus-off, and on the bus a free transmitter leaves no LITMAP waiting. -/
def VPortState.SendOk (p : VPortState) : Prop :=
  (p.busOff = true → p.sending = none) ∧ (p.busOff = false → p.sending = none → p.litmap = none)

/-- The C-port sends nothing while bus-off, and on the bus a free transmitter leaves no message waiting. -/
def CPortState.SendOk (p : CPortState) : Prop :=
  (p.busOff = true → p.sending = none) ∧
    (p.busOff = false → p.sending = none → p.status = none ∧ p.notice = none ∧ p.distRequest = none ∧ p.diagReply = none)

/-- The diagnostic reader is busy exactly while its request waits, its access is under way, or its reply stands queued, one of
the three. -/
def ReaderInv (s : State) : Prop :=
  (s.reader.isSome = true ↔
      s.cPort.diagReply.isSome = true ∨ s.store.waitDiag.isSome = true ∨ (s.store.accessOf .diag).isSome = true) ∧
    ¬(s.cPort.diagReply.isSome = true ∧ s.store.waitDiag.isSome = true) ∧
    ¬(s.cPort.diagReply.isSome = true ∧ (s.store.accessOf .diag).isSome = true) ∧
    ¬(s.store.waitDiag.isSome = true ∧ (s.store.accessOf .diag).isSome = true) ∧
    (∀ a ∈ s.store.waitCommit, a.isDiag = false) ∧ (∀ a ∈ s.store.waitLinkL, a.isDiag = false) ∧
    (∀ a ∈ s.store.waitLinkR, a.isDiag = false)

/-- No request waits at an idle port: it would have been granted at once (R132). -/
def NoRequestAtIdlePort (st : FrameStore) : Prop := st.busy = none → ∀ r : Requester, st.waiting r = none

/-- Both ports, the diagnostic reader, and the frame store's port, whose idleness leaves no request waiting. -/
def PortsInv (s : State) : Prop := s.vPort.SendOk ∧ s.cPort.SendOk ∧ ReaderInv s ∧ NoRequestAtIdlePort s.store

/-! ## All of them -/

/-- Every invariant of the part. -/
def Inv (s : State) : Prop :=
  TrackTableInv s ∧ CalibrationInv s ∧ TimesInv s ∧ PresenceInv s ∧ CacheInv s ∧ NewestFrameInv s ∧ LinksInv s ∧ SegmentInv s ∧
    PortsInv s

end Sys2Proof.Machine
end

