-- ==== Sys2Proof/Certificates/Slice0/Obligations.lean ====
section
/-! DEFINITION. The statements for the provers. `Gives c s t` says that command `c` at `s` is carried out with the effect `t`, which
spells what changes and leaves every other field as `s` has it; what a free transmitter then begins is
`Obligations.TransmitterBeginsLowestIdentifier`. -/

open Sys2Proof Sys2Proof.Machine

/-! ## The step -/

/-- A step carries out the command at the front of the queue with the queue's rest, and no command touches the queue (the model's
own queue, log 2). -/
def Obligations.FrontCommandIsCarriedOut : Prop :=
  ∀ (c : Instr) (rest : List Instr) (s : State), s.pending = c :: rest →
    step s = exec c { s with pending := rest } ∧ ∀ t, step s = .next t → t.pending = rest

/-- The model's choice (log 2): on an empty queue a step is one millisecond of every time base. A running timer and an age in RUN go on
by 1 ms while that leaves them below their limit, and else stay; a release timer counts down while more than 1 ms remains; the lane
record's age has no limit; nothing else changes. Exactly the commands of the limits reached in this millisecond are queued. -/
def Obligations.EmptyQueuePassesOneMillisecond : Prop :=
  ∀ s : State, s.pending = [] →
    let next := fun (limit n : Nat) => if n + 1 < limit then n + 1 else n
    let expiry := (activeCal s).nat .trackExpiry
    let flashMax := (activeCal s).nat .flashMax
    let buildPeriod := (committedCal s).nat .buildPeriod
    let fresh := s.motion.presence = .fresh
    let aged := fun (e : TrackEntry) =>
      { e with
        age := next expiry e.age
        life :=
          match e.life with
          | .live => .live
          | .releasing remaining => .releasing (if 1 < remaining then remaining - 1 else remaining) }
    let timed := fun (l : LampLink) =>
      { l with
        statusTimer := l.statusTimer.map (next 300)
        transfer := l.transfer.map fun t => { t with replyTimer := t.replyTimer.map (next 5) } }
    ∃ t, step s = .next t ∧
      t =
        { s with
          pending := t.pending
          tracks := if s.operating = .run then s.tracks.map aged else s.tracks
          motion :=
            { s.motion with
              timer := s.motion.timer.map (next (if fresh then 100 else 500))
              lane := s.motion.lane.map fun l => { l with age := l.age + 1 } }
          selector :=
            { s.selector with
              flash :=
                match s.selector.flash with
                | .active n => .active (next flashMax n)
                | flash => flash }
          vision := { s.vision with timer := s.vision.timer.map (next 200) }
          cache := { s.cache with request := s.cache.request.map fun r => { r with timer := next 250 r.timer } }
          builder := { s.builder with timer := s.builder.timer.map (next buildPeriod) }
          linkL := timed s.linkL
          linkR := timed s.linkR } ∧
      ∀ c : Instr, c ∈ t.pending ↔
        (s.operating = .run ∧ ∃ e ∈ s.tracks,
          (c = .releaseTimerExpiry e.id ∧ ∃ remaining, e.life = .releasing remaining ∧ remaining ≤ 1) ∨
            (c = .trackAgeExpiry e.id ∧ expiry ≤ e.age + 1)) ∨
        (c = .presenceStale ∧ fresh ∧ ∃ n ∈ s.motion.timer, 100 ≤ n + 1) ∨
        (c = .presenceLost ∧ ¬fresh ∧ ∃ n ∈ s.motion.timer, 500 ≤ n + 1) ∨
        (c = .flashExpiry ∧ ∃ n, s.selector.flash = .active n ∧ flashMax ≤ n + 1) ∨
        (c = .visionLoss ∧ ∃ n ∈ s.vision.timer, 200 ≤ n + 1) ∨
        (∃ x : Side, c = .statusTimerExpiry x ∧ ∃ n ∈ (s.link x).statusTimer, 300 ≤ n + 1) ∨
        (∃ x : Side, c = .replyTimeout x ∧ ∃ t ∈ (s.link x).transfer, ∃ n ∈ t.replyTimer, 5 ≤ n + 1) ∨
        (c = .requestTimerExpiry ∧ ∃ r ∈ s.cache.request, 250 ≤ r.timer + 1) ∨
        (c = .buildTimerExpiry ∧ ∃ n ∈ s.builder.timer, buildPeriod ≤ n + 1)

/-! ## Resets and operating state -/

/-- R183: power-on reset, from any state, with the power-on values of Tables 2-4, 3-6, 4-3, 7-2, 8-6 and 9-5 and the LIMP frame of R130;
the one STATUS is queued, or its transmission has begun. The defaults are those of Table 10-7. -/
def Obligations.PowerOnResetLeavesPowerOnValues : Prop :=
  CalibrationOk ∧
  ∀ s : State, ∃ t, exec .powerOnReset s = .next t ∧
    t.operating = .config ∧ (∀ p : Param, t.working.get p = p.default) ∧ t.committed = none ∧ t.tracks = [] ∧
    t.motion = { record := none, presence := .lost, timer := none, runCount := 0, frozenRaised := false, lane := none } ∧
    t.selector.request = .steady .low ∧ t.selector.lastSteady = .low ∧ t.selector.flash = .idle ∧
    t.selector.scene = { streetLit := false, fog := false, rain := false, ambient := none } ∧
    t.selector.gate = .closed ∧ t.selector.roadClass = .rural ∧ t.selector.candidate = none ∧ t.selector.count = 0 ∧
    t.vision = { present := false, timer := none } ∧
    (∀ i : Fin 8, (t.cache.slots.get i).valid = false ∧ (t.cache.slots.get i).tag = none ∧
      (t.cache.slots.get i).lastUse = 0) ∧
    t.cache.lockLevel = 0 ∧ t.cache.protect = false ∧ t.cache.disableWay0 = false ∧ t.cache.disableWay1 = false ∧
    t.cache.fill = none ∧ t.cache.request = none ∧ t.cache.failed = [] ∧ t.cache.history = [] ∧
    t.builder.timer = none ∧ t.builder.phase = .idle ∧ t.builder.workingCopy = none ∧
    t.builder.mirror = frameToMirror limpFrame ∧
    t.builder.mirror =
      { sequence := 0, mode := .low, reason := .noFallback, bend := 0, level := 0, left := List.replicate 120 0
        right := List.replicate 120 0 } ∧
    t.store.slot 0 =
      { state := .stored, newest := true, holders := noHolders, sequence := some 0, memory := frameToMemory limpFrame } ∧
    (t.store.slot 0).memory.header = limpFrame.header ∧
    limpFrame.header =
      { sequence := 0, mode := .low, lowOn := true, bend := 0, level := 0, distHeld := false, yellowL := false
        yellowR := false, clampedL := false, clampedR := false, reason := .noFallback } ∧
    (∀ (x : Side) (k : Fin 5), (t.store.slot 0).memory.block x k = List.replicate 24 0) ∧
    (∀ i : Fin 6, i ≠ 0 → (t.store.slot i).state = .free ∧ (t.store.slot i).newest = false ∧
      (t.store.slot i).holders = noHolders ∧ (t.store.slot i).sequence = none) ∧
    t.store.busy = none ∧ t.store.waitCommit = none ∧ t.store.waitLinkL = none ∧ t.store.waitLinkR = none ∧
    t.store.waitDiag = none ∧ t.store.lastGranted = .diag ∧
    (∀ x, (t.link x).state = .down ∧ (t.link x).statusTimer = none ∧ (t.link x).temp = none ∧ (t.link x).supplyOk = none ∧
      (t.link x).dead = [] ∧ (t.link x).deadLimitFlag = false ∧ (t.link x).transfer = none ∧ (t.link x).applied = none ∧
      (t.link x).tagCounter = 0) ∧
    t.diag.summary = 0 ∧ t.diag.capture = none ∧ t.diag.notices = 0 ∧ t.diag.mask = 0xFF#8 ∧ t.reader = none ∧
    t.vPort.litmap = none ∧ t.cPort.notice = none ∧ t.cPort.distRequest = none ∧ t.cPort.diagReply = none ∧
    ∃ r : StatusReport,
      (t.cPort.status = some r ∨
        (t.cPort.status = none ∧ t.cPort.sending = some { identifier := 0x280, data := r.bytes })) ∧
      r.operating = .config ∧
      r.header = limpFrame.header ∧ r.summary = 0 ∧ r.notices = 0 ∧ r.AsStands t

/-- R182: RESTART, in either operating state. The store's part is the installation of the LIMP frame (R130), which ends the access
under way and puts a diagnostic read back to be served afresh (R133); that this read is granted in the same command is the model's choice
(log 24). STATE_CHANGED and its NOTICE are `Obligations.FaultJoinsSummaryAndCapture`'s `raiseNotice`. -/
def Obligations.RestartResetsEachBlock : Prop :=
  ∀ (data : List Byte) (s : State), data.length = 0 → s.cPort.busOff = false →
    ∃ t u, exec (.restart data) s = .next t ∧ t = beginTransmissions u ∧
      u.operating = (if s.committed.isSome then .run else .config) ∧
      (∀ p : Param, u.working.get p = match s.committed with | some c => c.get p | none => p.default) ∧
      u.committed = s.committed ∧ u.tracks = [] ∧ u.motion = resetMotion ∧ u.selector = resetSelector ∧
      u.vision = resetVision ∧
      u.cache = { s.cache with fill := none, request := none, failed := [], history := [] } ∧
      u.builder.timer = (if s.committed.isSome then some 0 else none) ∧ u.builder.phase = .idle ∧
      u.builder.workingCopy = none ∧ u.builder.mirror = frameToMirror limpFrame ∧
      (u.store.slot 0).newest = true ∧ (u.store.slot 0).state = .stored ∧ (u.store.slot 0).sequence = some 0 ∧
      (u.store.slot 0).holders = noHolders ∧ (u.store.slot 0).memory = frameToMemory limpFrame ∧
      (∀ i : Fin 6, i ≠ 0 → (u.store.slot i).state = .free ∧ (u.store.slot i).newest = false ∧
        (u.store.slot i).holders = noHolders ∧ (u.store.slot i).sequence = none) ∧
      u.store.waitCommit = none ∧ u.store.waitLinkL = none ∧ u.store.waitLinkR = none ∧
      (∀ x, u.link x = { s.link x with transfer := none, applied := none, waiting := none }) ∧
      u.diag.summary = s.diag.summary ∧ u.diag.capture = s.diag.capture ∧ u.diag.mask = s.diag.mask ∧
      u.diag.notices = (if u.operating = s.operating then 0 else NoticeKind.stateChanged.bit) ∧
      u.cPort.distRequest = none ∧ u.vPort = s.vPort ∧ u.cPort.busOff = s.cPort.busOff ∧
      u.cPort.sending = s.cPort.sending ∧ u.reader = s.reader ∧
      (s.store.waitDiag = none → s.store.accessOf .diag = none → u.cPort.diagReply = s.cPort.diagReply) ∧
      (let kept := { s.cPort with distRequest := none, diagReply := u.cPort.diagReply }
       if u.operating = s.operating then u.cPort = kept
       else
        u.cPort =
            { kept with
              status := u.cPort.status
              notice := (raiseNotice .stateChanged { s with diag := { s.diag with notices := 0 } }).cPort.notice } ∧
          ∃ r ∈ u.cPort.status, r.operating = u.operating ∧ r.header.sequence = 0 ∧ r.OfChange u) ∧
      u.pending = s.pending ∧ u.freeIndex = s.freeIndex ∧ PortInstalled s u

/-- R181: CONFIG_ENTER is accepted in RUN with motion FRESH and the recorded v below 50, and else refused with REQUEST_REFUSED. The
installation ends the access under way and puts a diagnostic read back to be served afresh (R130, R133); that this read is granted in the
same command is the model's choice (log 24). -/
def Obligations.ConfigEnterAcceptedOrRefused : Prop :=
  ∀ (data : List Byte) (s : State), data.length = 0 → s.cPort.busOff = false →
    ((s.operating = .run ∧ s.motion.presence = .fresh ∧ ∃ r ∈ s.motion.record, r.v < 50) →
      ∃ t u, exec (.configEnter data) s = .next t ∧ t = beginTransmissions u ∧
        u.operating = .config ∧ u.working = committedCal s ∧ u.committed = s.committed ∧ u.tracks = [] ∧
        u.motion = s.motion ∧ u.selector = s.selector ∧ u.vision = s.vision ∧ u.cache = s.cache ∧
        u.builder = { s.builder with timer := none, phase := .idle, mirror := frameToMirror limpFrame } ∧
        (u.store.slot 0).newest = true ∧ (u.store.slot 0).state = .stored ∧ (u.store.slot 0).sequence = some 0 ∧
        (u.store.slot 0).holders = noHolders ∧ (u.store.slot 0).memory = frameToMemory limpFrame ∧
        (∀ i : Fin 6, i ≠ 0 → (u.store.slot i).state = .free ∧ (u.store.slot i).newest = false ∧
          (u.store.slot i).holders = noHolders ∧ (u.store.slot i).sequence = none) ∧
        u.store.waitCommit = none ∧ u.store.waitLinkL = none ∧ u.store.waitLinkR = none ∧
        (∀ x, u.link x = { s.link x with transfer := none, applied := none, waiting := none }) ∧
        u.diag = { s.diag with notices := s.diag.notices ||| NoticeKind.stateChanged.bit } ∧
        (∃ r ∈ u.cPort.status, r.operating = .config ∧ r.header.sequence = 0 ∧ r.OfChange u) ∧
        u.cPort =
          { (raiseNotice .stateChanged s).cPort with status := u.cPort.status, diagReply := u.cPort.diagReply } ∧
        (s.store.waitDiag = none → s.store.accessOf .diag = none → u.cPort.diagReply = s.cPort.diagReply) ∧
        u.vPort = s.vPort ∧ u.reader = s.reader ∧ u.pending = s.pending ∧ u.freeIndex = s.freeIndex ∧
        PortInstalled s u) ∧
      (¬(s.operating = .run ∧ s.motion.presence = .fresh ∧ ∃ r ∈ s.motion.record, r.v < 50) →
        Gives (.configEnter data) s
          (raiseFault { kind := .requestRefused, sequence := none, link := none, item := some (.request 0x26A none) } s))

/-- R179: CAL_SET of a known id in CONFIG writes the clamped value, with CAL_CLAMPED if the clamp changed it; a flash that has run
for the new flash_max or longer runs out (R42). In RUN it is refused, and an unknown id is a BAD_MESSAGE. The ids, ranges
and defaults are those of Table 10-7. -/
def Obligations.CalSetWritesWorkingSet : Prop :=
  CalibrationOk ∧
  ∀ (data : List Byte) (s : State), data.length = 3 → s.cPort.busOff = false →
    (∀ p : Param, byteAt data 0 = p.id → s.operating = .config →
      let v := clamp p.range.1 p.range.2 (signed16 data 1)
      let written : State :=
        { s with
          working := s.working.put p v
          selector :=
            match s.selector.flash with
            | .active n =>
              if p = .flashMax ∧ v ≤ n then
                { s.selector with request := .steady s.selector.lastSteady, flash := .spent }
              else s.selector
            | _ => s.selector }
      Gives (.calSet data) s (if v = signed16 data 1 then written else raiseNotice .calClamped written)) ∧
    (∀ p : Param, byteAt data 0 = p.id → s.operating = .run →
      Gives (.calSet data) s
        (raiseFault { kind := .requestRefused, sequence := none, link := none, item := some (.request 0x268 (some p.id)) } s)) ∧
    (byteAt data 0 = 0 ∨ 49 < byteAt data 0 →
      Gives (.calSet data) s
        (raiseFault { kind := .badMessage, sequence := none, link := none, item := some (.message 0x268 0) } s))

/-- R180: a CAL_DONE that passes the cross-checks of Table 10-8 enters RUN; one that fails a check raises CAL_REFUSED with the
parameter of the first that fails; in RUN it is ignored. -/
def Obligations.CalDoneCommitsOrRefuses : Prop :=
  ∀ (data : List Byte) (s : State), data.length = 0 → s.cPort.busOff = false →
    let v := s.working.get
    let passes := v .rowEdge0 < v .rowEdge1 ∧ v .rowEdge1 < v .rowEdge2 ∧ v .rowEdge2 < v .rowEdgeTop ∧
      v .adbOff < v .adbOn ∧ v .yellowBand < v .budget ∧ v .budgetMin ≤ v .budget ∧ v .coastStart < v .trackExpiry ∧
      (v .bendStep ≤ v .bendMax ∨ v .bendMax = 0)
    (s.operating = .config → passes →
      ∃ u, Gives (.calDone data) s u ∧ u.operating = .run ∧ u.committed = some s.working ∧ u.working = s.working ∧
        u.builder = { s.builder with timer := some 0, workingCopy := none } ∧
        u.diag = { s.diag with notices := s.diag.notices ||| NoticeKind.stateChanged.bit } ∧
        (∃ r ∈ u.cPort.status, r.operating = .run ∧ r.OfChange u) ∧
        u.cPort = { (raiseNotice .stateChanged s).cPort with status := u.cPort.status } ∧
        u.tracks = s.tracks ∧ u.motion = s.motion ∧ u.selector = s.selector ∧ u.vision = s.vision ∧ u.cache = s.cache ∧
        u.store = s.store ∧ u.linkL = s.linkL ∧ u.linkR = s.linkR ∧ u.vPort = s.vPort ∧ u.reader = s.reader ∧
        u.pending = s.pending ∧ u.freeIndex = s.freeIndex) ∧
    (s.operating = .config → ¬passes →
      ∃ p : Param,
        p.id =
          (if ¬v .rowEdge0 < v .rowEdge1 then 39
           else if ¬v .rowEdge1 < v .rowEdge2 then 40
           else if ¬v .rowEdge2 < v .rowEdgeTop then 41
           else if ¬v .adbOff < v .adbOn then 15
           else if ¬v .yellowBand < v .budget then 48
           else if ¬v .budgetMin ≤ v .budget then 45
           else if ¬v .coastStart < v .trackExpiry then 4
           else 10) ∧
        Gives (.calDone data) s
          (raiseFault { kind := .calRefused, sequence := none, link := none, item := some (.param p) } s)) ∧
    (s.operating = .run → exec (.calDone data) s = .next s)

/-- Four commands alone move the operating state (Table 10-9). -/
def Obligations.OnlyFourCommandsMoveOperatingState : Prop :=
  ∀ (c : Instr) (s t : State), exec c s = .next t → t.operating ≠ s.operating →
    (∃ data, c = .calDone data ∧ s.operating = .config ∧ t.operating = .run) ∨
      (∃ data, c = .configEnter data ∧ s.operating = .run ∧ t.operating = .config) ∨
      (∃ data, c = .restart data) ∨ (c = .powerOnReset ∧ t.operating = .config)

/-! ## Receiving and sending -/

/-- A received frame of a wrong length raises BAD_MESSAGE with its identifier and index 0; a bus-off port receives nothing. -/
def Obligations.WrongLengthAndBusOffAreNotAccepted : Prop :=
  ∀ (c : Instr) (port : Port) (identifier : Nat) (data : List Byte) (s : State),
    receivedFrame c = some (port, identifier, data) →
      (s.portOff port = true → exec c s = .next s) ∧
      (s.portOff port = false → ¬LengthFits identifier data →
        Gives c s
          (raiseFault
            { kind := .badMessage, sequence := none, link := none, item := some (.message identifier 0) } s))

/-- A port on the bus with a free transmitter begins its queued message of the lowest identifier; a busy transmitter and a bus-off
port begin nothing; the reader is free from the moment its reply begins. TRANSMISSION_END frees the transmitter. What a LITMAP, a STATUS and a
DIAG_REPLY send has the layouts of 10.4; that a mark with a byte of its own is 0 or 1 is the model's choice (log 23). -/
def Obligations.TransmitterBeginsLowestIdentifier : Prop :=
  (∀ m : LitMap, m.LayoutOk) ∧ (∀ r : StatusReport, r.LayoutOk) ∧ (∀ r : DiagReply, r.LayoutOk) ∧
  ∀ s : State,
    let t := beginTransmissions s
    (t = { s with vPort := t.vPort, cPort := t.cPort, reader := t.reader }) ∧
    (s.vPort.busOff = true ∨ s.vPort.sending.isSome = true ∨ s.vPort.litmap = none → t.vPort = s.vPort) ∧
    (s.vPort.busOff = false → s.vPort.sending = none → ∀ m ∈ s.vPort.litmap,
      t.vPort = { s.vPort with litmap := none, sending := some { identifier := 0x1C8, data := m.bytes } }) ∧
    (s.cPort.busOff = true ∨ s.cPort.sending.isSome = true → t.cPort = s.cPort ∧ t.reader = s.reader) ∧
    (s.cPort.busOff = false → s.cPort.sending = none →
      (∀ m ∈ s.cPort.status,
        t.cPort = { s.cPort with status := none, sending := some { identifier := 0x280, data := m.bytes } } ∧
          t.reader = s.reader) ∧
      (s.cPort.status = none → ∀ kinds ∈ s.cPort.notice,
        t.cPort = { s.cPort with notice := none, sending := some { identifier := 0x281, data := [kinds] } } ∧
          t.reader = s.reader) ∧
      (s.cPort.status = none → s.cPort.notice = none → ∀ d ∈ s.cPort.distRequest,
        t.cPort = { s.cPort with distRequest := none, sending := some { identifier := 0x282, data := [putByte d] } } ∧
          t.reader = s.reader) ∧
      (s.cPort.status = none → s.cPort.notice = none → s.cPort.distRequest = none → ∀ m ∈ s.cPort.diagReply,
        t.cPort = { s.cPort with diagReply := none, sending := some { identifier := 0x283, data := m.bytes } } ∧
          t.reader = none) ∧
      (s.cPort.status = none → s.cPort.notice = none → s.cPort.distRequest = none → s.cPort.diagReply = none →
        t.cPort = s.cPort ∧ t.reader = s.reader)) ∧
    (s.vPort.sending.isSome = true →
      Gives (.transmissionEnd .vPort) s { s with vPort := { s.vPort with sending := none } }) ∧
    (s.cPort.sending.isSome = true →
      Gives (.transmissionEnd .cPort) s { s with cPort := { s.cPort with sending := none } })

/-- A port that goes bus-off loses its outbound queue and its message in transmission, and a reply lost so frees the reader; after
recovery it sends what was queued meanwhile. -/
def Obligations.BusOffLosesTheOutboundQueue : Prop :=
  ∀ s : State,
    (s.vPort.busOff = false →
      Gives (.busOff .vPort) s { s with vPort := { busOff := true, litmap := none, sending := none } }) ∧
    (s.cPort.busOff = false →
      Gives (.busOff .cPort) s
        { s with
          cPort :=
            { busOff := true, status := none, notice := none, distRequest := none, diagReply := none, sending := none }
          reader := if s.cPort.diagReply.isSome then none else s.reader }) ∧
    (s.vPort.busOff = true → Gives (.busOffRecovery .vPort) s { s with vPort := { s.vPort with busOff := false } }) ∧
    (s.cPort.busOff = true → Gives (.busOffRecovery .cPort) s { s with cPort := { s.cPort with busOff := false } })

/-! ## Track table -/

/-- TRACKS in RUN takes its records one at a time in record-index order; in CONFIG it discards them. Both refresh vision presence. Record
`i` stands at byte 4 + 10 × i as Table 10-3 lays it out. The fields of every message are read as 10.4 says. -/
def Obligations.TracksTakenRecordByRecord : Prop :=
  (∀ (data : List Byte) (s : State), s.vPort.busOff = false → LengthFits 0x1C0 data →
    let refreshed := { s with vision := { present := true, timer := some 0 } }
    (s.operating = .config → Gives (.tracks data) s refreshed) ∧
    (s.operating = .run → Gives (.tracks data) s (takeRecords (tracksRecords data) refreshed)) ∧
    (tracksRecords data).map (·.1) = List.range (byteAt data 0) ∧
    ∀ (i : Nat) (r : TrackRecord), (i, r) ∈ tracksRecords data →
      let b := fun k => byteAt data (4 + 10 * i + k)
      let word := ((b 6 * 256 + b 7) * 256 + b 8) * 256 + b 9
      r.id = b 0 ∧ r.classCode = b 1 ∧ r.thetaL = signed16 data (4 + 10 * i + 2) ∧ r.thetaR = signed16 data (4 + 10 * i + 4) ∧
        r.phiT = (if word / 2 ^ 20 < 2048 then ((word / 2 ^ 20 : Nat) : Int) else ((word / 2 ^ 20 : Nat) : Int) - 4096) ∧
        r.dist = word / 2 ^ 7 % 2 ^ 13 ∧ r.conf = word % 2 ^ 7) ∧
  (∀ (data : List Byte) (i : Nat),
    (∀ b, data[i]? = some b → byteAt data i = b.toNat) ∧
      unsigned16 data i = byteAt data i * 256 + byteAt data (i + 1) ∧
      signed16 data i = (if byteAt data i < 128 then (unsigned16 data i : Int) else unsigned16 data i - 65536)) ∧
  (∀ s : State, takeRecords [] s = s) ∧
  (∀ (i : Nat) (r : TrackRecord) (rest : List (Nat × TrackRecord)) (s : State),
    takeRecords ((i, r) :: rest) s = takeRecords rest (takeRecord i r s))

/-- One record in RUN: malformed, update in place, append, displacement of the victim, or refusal with TABLE_FULL, under the class order
ONCOMING, PRECEDING, OTHER_LIGHT, SIGN of 1.3.1. The victim is `Obligations.VictimIsLowestFarthestOldest`'s. -/
def Obligations.TrackRecordUpdatesAppendsOrCompetes : Prop :=
  (TrackClass.priority .sign < TrackClass.priority .otherLight ∧
    TrackClass.priority .otherLight < TrackClass.priority .preceding ∧
    TrackClass.priority .preceding < TrackClass.priority .oncoming) ∧
  ∀ (i : Nat) (r : TrackRecord) (s : State),
    let wellFormed := r.id ≠ 0 ∧ r.id ≠ 255 ∧ r.classCode ≤ 3 ∧ r.thetaL ≤ r.thetaR
    let e := r.entry
    (¬wellFormed →
      takeRecord i r s =
        raiseFault { kind := .badMessage, sequence := none, link := none, item := some (.message 0x1C0 i) } s) ∧
    (wellFormed →
      e.id = r.id ∧ e.cls.code = r.classCode ∧ e.thetaL = clamp (-3000) 3000 r.thetaL ∧
        e.thetaR = clamp (-3000) 3000 r.thetaR ∧ e.phiT = clamp (-1000) 1000 r.phiT ∧ e.dist = min r.dist 5000 ∧
        e.conf = min r.conf 100 ∧ e.life = .live ∧ e.age = 0 ∧
      ((∃ old ∈ s.tracks, old.id = r.id) →
        takeRecord i r s = { s with tracks := s.tracks.map fun old => if old.id = r.id then e else old }) ∧
      ((∀ old ∈ s.tracks, old.id ≠ r.id) → s.tracks.length < 24 →
        takeRecord i r s = { s with tracks := s.tracks ++ [e] }) ∧
      ((∀ old ∈ s.tracks, old.id ≠ r.id) → 24 ≤ s.tracks.length → ∀ v, victim s.tracks = some v →
        let wins := v.cls.priority < e.cls.priority ∨
          (e.cls = v.cls ∧ e.dist ≠ 0 ∧ (v.dist = 0 ∨ e.dist < v.dist))
        (wins → takeRecord i r s = { s with tracks := (s.tracks.filter fun old => old.id ≠ v.id) ++ [e] }) ∧
        (¬wins →
          takeRecord i r s =
            raiseFault
              { kind := .tableFull, sequence := none, link := none, item := some (.track r.id i) } s)))

/-- R8: the victim has the lowest class priority, in the order ONCOMING, PRECEDING, OTHER_LIGHT, SIGN of 1.3.1, then the greatest distance
with unknown farthest, then the lowest position. -/
def Obligations.VictimIsLowestFarthestOldest : Prop :=
  (TrackClass.priority .sign < TrackClass.priority .otherLight ∧
    TrackClass.priority .otherLight < TrackClass.priority .preceding ∧
    TrackClass.priority .preceding < TrackClass.priority .oncoming) ∧
  ∀ (tracks : List TrackEntry) (p : Nat) (v : TrackEntry), tracks[p]? = some v →
    (victim tracks = some v ∧ (∀ q w, q < p → tracks[q]? = some w → w ≠ v) ↔
      (∀ (q : Nat) (w : TrackEntry), tracks[q]? = some w →
        v.cls.priority ≤ w.cls.priority ∧
          (w.cls = v.cls → v.dist = 0 ∨ (w.dist ≠ 0 ∧ w.dist ≤ v.dist)) ∧
          (w.cls = v.cls → (w.dist = v.dist) → p ≤ q)))

/-- R10: TRACK_END in RUN by the id named, and in CONFIG without effect; vision presence is refreshed either way (R48). -/
def Obligations.TrackEndReleasesOrRemoves : Prop :=
  ∀ (data : List Byte) (s : State), data.length = 1 → s.vPort.busOff = false →
    let id := byteAt data 0
    let hold := (activeCal s).nat .releaseHold
    let refreshed := { s with vision := { present := true, timer := some 0 } }
    (s.operating = .config → Gives (.trackEnd data) s refreshed) ∧
    (s.operating = .run →
      (id = 0 ∨ id = 255 →
        Gives (.trackEnd data) s
          (raiseFault { kind := .badMessage, sequence := none, link := none, item := some (.message 0x1C1 0) } refreshed)) ∧
      (id ≠ 0 → id ≠ 255 → (∀ e ∈ s.tracks, e.id ≠ id) → Gives (.trackEnd data) s refreshed) ∧
      (id ≠ 0 → id ≠ 255 → (s.tracks.map (·.id)).Nodup → ∀ e ∈ s.tracks, e.id = id →
        (e.life = .live → 1 ≤ hold →
          Gives (.trackEnd data) s
            { refreshed with
              tracks := s.tracks.map fun old => if old.id = id then { old with life := .releasing hold } else old }) ∧
        (e.life = .live → hold = 0 →
          Gives (.trackEnd data) s { refreshed with tracks := s.tracks.filter fun old => old.id ≠ id }) ∧
        (∀ remaining, e.life = .releasing remaining → Gives (.trackEnd data) s refreshed)))

/-- A release timer's expiry and an age's expiry each remove the entry of their id, the entries behind it moving up, and raise
nothing; the second of two finds no entry and has no effect. -/
def Obligations.TrackTimersRemoveTheirEntry : Prop :=
  ∀ (id : Nat) (s : State), (s.tracks.map (·.id)).Nodup →
    let removed := { s with tracks := s.tracks.filter fun e => e.id ≠ id }
    (∀ e ∈ s.tracks, e.id = id →
      Gives (.trackAgeExpiry id) s removed ∧
      ∀ remaining, e.life = .releasing remaining → Gives (.releaseTimerExpiry id) s removed) ∧
    ((∀ e ∈ s.tracks, e.id ≠ id) →
      exec (.trackAgeExpiry id) s = .next s ∧ exec (.releaseTimerExpiry id) s = .next s)

/-! ## Motion unit, mode selector, vision presence -/

/-- R30, R46: LANE and SCENE replace their records with clamped values, in either operating state, and refresh vision presence. -/
def Obligations.LaneAndSceneReplaceTheirRecords : Prop :=
  ∀ (data : List Byte) (s : State), data.length = 3 → s.vPort.busOff = false →
    Gives (.lane data) s
      { s with
        vision := { present := true, timer := some 0 }
        motion :=
          { s.motion with
            lane := some { kappa := clamp (-20000) 20000 (signed16 data 0), conf := min (byteAt data 2) 100, age := 0 } } } ∧
    Gives (.scene data) s
      { s with
        vision := { present := true, timer := some 0 }
        selector :=
          { s.selector with
            scene :=
              { streetLit := (byteAt data 0).testBit 0, fog := (byteAt data 0).testBit 1, rain := (byteAt data 0).testBit 2
                ambient := some (min (unsigned16 data 1) 10000) } } }

/-- MOTION: a repeat adds to the run and its third raises MOTION_FROZEN once; any other message replaces the record, makes presence
FRESH, and drives the gate and the road class. The road class is judged on the curvature selection, the first case of Table 2-3 that
applies (R31, R32), and on the light count (R15). -/
def Obligations.MotionRepeatedOrAccepted : Prop :=
  (∀ (laneConfMin : Nat) (u : MotionUnit),
    let usable := ∃ l ∈ u.lane, l.age < 150 ∧ laneConfMin ≤ l.conf
    (∀ l ∈ u.lane, l.age < 150 → laneConfMin ≤ l.conf → curvature laneConfMin u = (l.kappa, .vision)) ∧
    (¬usable → ∀ m ∈ u.record, u.presence = .fresh → 200 ≤ m.v →
      curvature laneConfMin u = (max (-20000) (min 20000 (roundDiv (m.omega * 17453) m.v)), .yaw)) ∧
    (¬usable → (u.presence ≠ .fresh ∨ ∀ m ∈ u.record, m.v < 200) → curvature laneConfMin u = (0, .noSource))) ∧
  (∀ (confMin : Nat) (tracks : List TrackEntry),
    lightCount confMin tracks =
      tracks.countP fun e => decide (e.life = .live ∧ e.cls = .otherLight ∧ confMin ≤ e.conf)) ∧
  ∀ (data : List Byte) (s : State), data.length = 12 → s.cPort.busOff = false →
    let alive := byteAt data 8 % 16
    ((∃ r ∈ s.motion.record, r.alive = alive) →
      let count := s.motion.runCount + 1
      if 3 ≤ count ∧ s.motion.frozenRaised = false then
        Gives (.motion data) s
          (raiseFault { kind := .motionFrozen, sequence := none, link := none, item := none }
            { s with motion := { s.motion with runCount := count, frozenRaised := true } })
      else Gives (.motion data) s { s with motion := { s.motion with runCount := count } }) ∧
    ((∀ r ∈ s.motion.record, r.alive ≠ alive) →
      let v := min (unsigned16 data 0) 4000
      let cal := activeCal s
      let motion : MotionUnit :=
        { record := some
            { v := v
              omega := clamp (-10000) 10000 (signed16 data 2)
              pCab := clamp (-500) 500 (signed16 data 4)
              pCh := clamp (-500) 500 (signed16 data 6)
              reverse := (byteAt data 8).testBit 4
              alive := alive }
          presence := .fresh, timer := some 0, runCount := 0, frozenRaised := false, lane := s.motion.lane }
      let gate := if cal.nat .adbOn ≤ v then .opened else if v < cal.nat .adbOff then .closed else s.selector.gate
      let kappa := (curvature (cal.nat .laneConfMin) motion).1.natAbs
      let candidate : RoadClass :=
        if v < 1400 ∧ (s.selector.scene.streetLit = true ∨
            cal.nat .townLights ≤ lightCount (cal.nat .confMin) s.tracks) then .town
        else if 4000 ≤ kappa then .winding
        else if 2200 ≤ v ∧ kappa < 1000 then .motorway
        else .rural
      let count := if s.selector.candidate = some candidate then s.selector.count + 1 else 1
      let threshold := if candidate = .winding then cal.nat .confirmWinding else cal.nat .confirmN
      Gives (.motion data) s
        { s with
          motion := motion
          selector :=
            if candidate = s.selector.roadClass then { s.selector with gate := gate, candidate := none, count := 0 }
            else if threshold ≤ count then
              { s.selector with gate := gate, roadClass := candidate, candidate := none, count := 0 }
            else { s.selector with gate := gate, candidate := some candidate, count := count } })

/-- The presence timer's two thresholds: STALE at 100 ms, raising nothing; LOST at 500 ms with MOTION_LOST, the timer stopped, the
record kept and the gate CLOSED. -/
def Obligations.PresenceTimerThresholds : Prop :=
  ∀ (s : State) (n : Nat), s.motion.timer = some n →
    (s.motion.presence = .fresh →
      Gives .presenceStale s { s with motion := { s.motion with presence := .stale, timer := some 100 } }) ∧
    Gives .presenceLost s
      (raiseFault { kind := .motionLost, sequence := none, link := none, item := none }
        { s with
          motion := { s.motion with presence := .lost, timer := none }
          selector := { s.selector with gate := .closed } })

/-- R43, R44, R45: DRIVER by the flash state and the code (Table 3-2), an unknown code's BAD_MESSAGE, and the flash's running out. -/
def Obligations.DriverRequestAndFlash : Prop :=
  (∀ (data : List Byte) (s : State), data.length = 1 → s.cPort.busOff = false →
    (∀ q : SteadyRequest, byteAt data 0 = (DriverRequest.steady q).code →
      Gives (.driver data) s
        { s with selector := { s.selector with request := .steady q, lastSteady := q, flash := .idle } }) ∧
    (byteAt data 0 = 4 →
      match s.selector.flash with
      | .idle => Gives (.driver data) s { s with selector := { s.selector with request := .flash, flash := .active 0 } }
      | .active _ => Gives (.driver data) s { s with selector := { s.selector with request := .flash } }
      | .spent => Gives (.driver data) s s) ∧
    (4 < byteAt data 0 →
      Gives (.driver data) s
        (raiseFault { kind := .badMessage, sequence := none, link := none, item := some (.message 0x261 0) } s))) ∧
  (∀ (s : State) (n : Nat), s.selector.flash = .active n →
    Gives .flashExpiry s
      { s with selector := { s.selector with request := .steady s.selector.lastSteady, flash := .spent } })

/-- The loss of vision presence by its timer: VISION_LOST, the track table emptied, the three scene flags cleared, the ambient and
the lane record kept. -/
def Obligations.VisionLossEmptiesTheTrackTable : Prop :=
  ∀ (s : State) (n : Nat), s.vision.timer = some n →
    Gives .visionLoss s
      (raiseFault { kind := .visionLost, sequence := none, link := none, item := none }
        { s with
          vision := { present := false, timer := none }
          tracks := []
          selector :=
            { s.selector with
              scene := { streetLit := false, fog := false, rain := false, ambient := s.selector.scene.ambient } } })

/-- R56, R57: the selection by the driver request, and under AUTO the first of Table 3-5's conditions that holds, else WEATHER or
the road class's shading mode. -/
def Obligations.SelectionFollowsDriverThenConditions : Prop :=
  ∀ s : State,
    (s.selector.request = .steady .off → selection s = { mode := .dark, reason := .noFallback, flash := false }) ∧
    (s.selector.request = .steady .low → selection s = { mode := .low, reason := .noFallback, flash := false }) ∧
    (s.selector.request = .steady .high → selection s = { mode := .full, reason := .noFallback, flash := false }) ∧
    (s.selector.request = .flash → selection s = { mode := .full, reason := .noFallback, flash := true }) ∧
    (s.selector.request = .steady .auto →
      let daylight := ∃ lux ∈ s.selector.scene.ambient, (activeCal s).nat .dayLux ≤ lux
      (s.motion.presence = .lost → selection s = { mode := .low, reason := .motionLost, flash := false }) ∧
      (s.motion.presence ≠ .lost → s.vision.present = false →
        selection s = { mode := .low, reason := .visionLost, flash := false }) ∧
      (s.motion.presence ≠ .lost → s.vision.present = true → s.selector.gate = .closed →
        selection s = { mode := .low, reason := .speedLow, flash := false }) ∧
      (s.motion.presence ≠ .lost → s.vision.present = true → s.selector.gate = .opened → daylight →
        selection s = { mode := .low, reason := .daylight, flash := false }) ∧
      (s.motion.presence ≠ .lost → s.vision.present = true → s.selector.gate = .opened → ¬daylight →
        ((s.selector.scene.fog = true ∨ s.selector.scene.rain = true) →
          selection s = { mode := .weather, reason := .noFallback, flash := false }) ∧
        (s.selector.scene.fog = false → s.selector.scene.rain = false →
          selection s =
            { mode :=
                (match s.selector.roadClass with
                 | .town => .town
                 | .rural => .country
                 | .motorway => .motorway
                 | .winding => .mountain)
              reason := .noFallback, flash := false }))) ∧
    ((selection s).mode.shading = true →
      s.selector.request = .steady .auto ∧ s.motion.presence ≠ .lost ∧ s.vision.present = true ∧
        s.selector.gate = .opened ∧ ∀ lux ∈ s.selector.scene.ambient, lux < (activeCal s).nat .dayLux)

/-! ## Distribution cache -/

/-- DIST_DATA: part 0 opens the fill buffer or replaces an open fill; part 1 of the open fill's id completes it, and the fill is
placed (`Obligations.FillTakesMatchVictimOrNoRoom`); a part 1 without its open fill, an unknown part and an id above 31 are each a
BAD_MESSAGE that leaves the buffer. -/
def Obligations.DistDataFillsTheBuffer : Prop :=
  ∀ (data : List Byte) (s : State), data.length = 64 → s.cPort.busOff = false →
    let part := byteAt data 0
    let d := byteAt data 1
    let values := (List.range 60).map fun i => byteAt data (2 + i)
    let discarded := fun index =>
      raiseFault { kind := .badMessage, sequence := none, link := none, item := some (.message 0x270 index) } s
    (1 < part → Gives (.distData data) s (discarded 0)) ∧
    (part ≤ 1 → 31 < d → Gives (.distData data) s (discarded part)) ∧
    (part = 0 → d ≤ 31 →
      Gives (.distData data) s { s with cache := { s.cache with fill := some { id := d, values := values } } }) ∧
    (part = 1 → d ≤ 31 →
      (∀ f ∈ s.cache.fill, f.id = d →
        Gives (.distData data) s
          (placeFill d (f.values ++ values) { s with cache := { s.cache with fill := none } })) ∧
      ((∀ f ∈ s.cache.fill, f.id ≠ d) → Gives (.distData data) s (discarded 1)))

/-- A fill's placement: a matching slot in an enabled way; else an invalid candidate, way 0 first; else the one candidate; else,
with both candidates valid, one of the two, whichever the free choice takes; else no room. A written fill takes its id out of the failed-id
set and cancels its request; no room puts the id into the failed-id set and drops its request. Beyond the cache's slots, failed-id set
and request, the queued DIST_REQUEST and, at no room, the fault, nothing changes but the model's own counter, and that only at the free
choice (log 1). That a DIST_REQUEST still queued is sent after no room has dropped its request is the model's choice (log 13). -/
def Obligations.FillTakesMatchVictimOrNoRoom : Prop :=
  ∀ (d : Nat) (values : List Nat) (s : State), CacheInv s → d ≤ 31 →
    let u := placeFill d values s
    let slot := fun w => s.cache.slot d w
    let candidate := fun w => s.cache.locked w = false ∧ s.cache.disabled w = false
    let matched := fun w => s.cache.disabled w = false ∧ (slot w).tag = some d
    let written := fun w =>
      u.cache.slot d w = { valid := true, tag := some d, values := values, checks := rowChecks values, lastUse := 0 } ∧
        u.cache.slot d (!w) =
          (if s.cache.disabled (!w) = true ∧ (slot (!w)).tag = some d then
            { slot (!w) with valid := false, tag := none }
          else slot (!w)) ∧
        (∀ i : Fin 8, i ≠ cacheIndex d w → i ≠ cacheIndex d (!w) → u.cache.slots.get i = s.cache.slots.get i) ∧
        u.cache.failed = s.cache.failed.filter (· != d) ∧
        (if ∃ r ∈ s.cache.request, r.id = d then
          u.cache.request = none ∧
            u.cPort.distRequest = if s.cPort.distRequest = some d then none else s.cPort.distRequest
        else u.cache.request = s.cache.request ∧ u.cPort.distRequest = s.cPort.distRequest) ∧
        u =
          { s with
            cache := { s.cache with slots := u.cache.slots, failed := u.cache.failed, request := u.cache.request }
            cPort := { s.cPort with distRequest := u.cPort.distRequest }
            freeIndex := u.freeIndex }
    (∀ w, matched w → written w ∧ u.freeIndex = s.freeIndex) ∧
    ((∀ w, ¬matched w) →
      (candidate false → (slot false).valid = false → written false ∧ u.freeIndex = s.freeIndex) ∧
      (candidate true → (slot true).valid = false → ¬(candidate false ∧ (slot false).valid = false) →
        written true ∧ u.freeIndex = s.freeIndex) ∧
      (∀ w, candidate w → (slot w).valid = true → ¬candidate (!w) → written w ∧ u.freeIndex = s.freeIndex) ∧
      (candidate false → candidate true → (slot false).valid = true → (slot true).valid = true →
        written false ∨ written true) ∧
      (¬candidate false → ¬candidate true →
        (∀ i, i ∈ u.cache.failed ↔ i = d ∨ i ∈ s.cache.failed) ∧
          u =
            raiseFault { kind := .distUnavailable, sequence := none, link := none, item := some (.distCause d .noRoom) }
              { s with
                cache :=
                  { s.cache with
                    failed := u.cache.failed
                    request := if ∃ r ∈ s.cache.request, r.id = d then none else s.cache.request } }))

/-- R78, R79, R80: DIST_DROP, DIST_CLEAR and DIST_LOCK. -/
def Obligations.DropClearAndLock : Prop :=
  ∀ (data : List Byte) (s : State), s.cPort.busOff = false →
    (data.length = 1 →
      let d := byteAt data 0
      (31 < d →
        Gives (.distDrop data) s
          (raiseFault { kind := .badMessage, sequence := none, link := none, item := some (.message 0x271 0) } s)) ∧
      (d ≤ 31 → (∀ w, (s.cache.slot d w).tag ≠ some d) → Gives (.distDrop data) s s) ∧
      (d ≤ 31 → CacheInv s → ∀ w, (s.cache.slot d w).tag = some d →
        (s.cache.locked w = true ∧ s.cache.protect = true →
          Gives (.distDrop data) s
            (raiseFault
              { kind := .requestRefused, sequence := none, link := none, item := some (.request 0x271 (some d)) } s)) ∧
        (s.cache.locked w = false ∨ s.cache.protect = false →
          ∃ u, Gives (.distDrop data) s u ∧ u = { s with cache := { s.cache with slots := u.cache.slots } } ∧
            ∀ i : Fin 8, u.cache.slots.get i =
              if i = cacheIndex d w then { s.cache.slots.get i with valid := false, tag := none }
              else s.cache.slots.get i))) ∧
    (data.length = 0 →
      ∃ u, Gives (.distClear data) s u ∧ u = { s with cache := { s.cache with slots := u.cache.slots } } ∧
        ∀ i : Fin 8, u.cache.slots.get i =
          if s.cache.protect = true ∧ s.cache.locked (wayOfIndex i) = true then s.cache.slots.get i
          else { s.cache.slots.get i with valid := false, tag := none }) ∧
    (data.length = 1 →
      let level := min (byteAt data 0 % 4) 2
      let bit := (byteAt data 0).testBit
      ∃ u, Gives (.distLock data) s u ∧
        u = { s with
              cache :=
                { s.cache with
                  slots := u.cache.slots, lockLevel := level, protect := bit 2, disableWay0 := bit 3
                  disableWay1 := bit 4 } } ∧
        ∀ i : Fin 8, u.cache.slots.get i =
          if (s.cache.slots.get i).valid = false ∧ ¬(level = 2 ∨ (level = 1 ∧ i.val % 2 = 0)) then
            { s.cache.slots.get i with tag := none }
          else s.cache.slots.get i)

/-- R71: at 250 ms the request is sent again, or after its third send given up with DIST_UNAVAILABLE, cause UNANSWERED. -/
def Obligations.RequestTimerSendsAgainOrGivesUp : Prop :=
  ∀ (s : State) (r : DistRequest), s.cache.request = some r →
    (r.sends < 3 →
      Gives .requestTimerExpiry s
        { s with
          cache := { s.cache with request := some { id := r.id, sends := r.sends + 1, timer := 0 } }
          cPort := { s.cPort with distRequest := some r.id } }) ∧
    (3 ≤ r.sends →
      ∃ failed : List Nat, (∀ d, d ∈ failed ↔ d < 32 ∧ (d = r.id ∨ d ∈ s.cache.failed)) ∧
        Gives .requestTimerExpiry s
          (raiseFault
            { kind := .distUnavailable, sequence := none, link := none, item := some (.distCause r.id .unanswered) }
            { s with cache := { s.cache with request := none, failed := failed } }))

/-- A build's lookup: a hit with agreeing row check bytes replaces the working copy and marks the slot; a disagreement invalidates
the slot, keeping its tag only while locked, raises DIST_PARITY and goes on as a miss; a miss acts on the request by the first case
that applies, joins the history and raises DIST_MISS, whose NOTICE is made or merged when it enters unmasked, and changes nothing else:
slots, failed-id set, fill buffer and lock settings are kept. A row's check byte is the exclusive-or of its 40 values (Table 4-2): a bit of it is
set when the bit is set in an odd number of them. -/
def Obligations.LookupHitsOrMisses : Prop :=
  (∀ values : List Nat, (rowChecks values).length = 3 ∧
    ∀ r bit : Nat, r < 3 →
      (((rowChecks values).getD r 0).testBit bit = true ↔
        (List.range 40).countP (fun c => (values.getD (r * 40 + c) 0).testBit bit) % 2 = 1)) ∧
  ∀ (d sequence : Nat) (s : State), CacheInv s →
    let hits := fun w =>
      s.cache.disabled w = false ∧ (s.cache.slot d w).valid = true ∧ (s.cache.slot d w).tag = some d
    (∀ w, hits w →
      let sl := s.cache.slot d w
      (rowChecks sl.values = sl.checks →
        lookup d sequence s =
          ({ s with
             cache :=
               { s.cache with
                 slots := s.cache.slots.set (cacheIndex d w) { sl with lastUse := sequence }
                 history := ({ id := d, outcome := .hit } :: s.cache.history).take 8 }
             builder := { s.builder with workingCopy := some sl.values } }, .hit)) ∧
      (rowChecks sl.values ≠ sl.checks →
        let invalid := { sl with valid := false, tag := if s.cache.locked w then sl.tag else none }
        lookup d sequence s =
          (lookupMiss d
            (raiseFault { kind := .distParity, sequence := some sequence, link := none, item := some (.dist d) }
              { s with cache := { s.cache with slots := s.cache.slots.set (cacheIndex d w) invalid } }), .miss))) ∧
    ((∀ w, ¬hits w) → lookup d sequence s = (lookupMiss d s, .miss)) ∧
    (let noted :=
       { s with cache := { s.cache with history := ({ id := d, outcome := .miss } :: s.cache.history).take 8 } }
     (lookupMiss d s).diag = { s.diag with notices := s.diag.notices ||| 32#8 } ∧
      (d ∈ s.cache.failed ∨ (∃ r ∈ s.cache.request, r.id = d) → lookupMiss d s = raiseNotice .distMiss noted) ∧
      (d ∉ s.cache.failed → (∀ r ∈ s.cache.request, r.id ≠ d) →
        lookupMiss d s =
          raiseNotice .distMiss
            { noted with
              cache := { noted.cache with request := some { id := d, sends := 1, timer := 0 } }
              cPort := { s.cPort with distRequest := some d } }))

/-! ## Builds -/

/-- A build timer expiry restarts the timer. With a build in flight it is skipped with BUILD_OVERRUN (R86); else a build starts: the
sequence after the newest frame's, the lowest FREE slot, and the snapshot of Table 5-1 with its one lookup (R87, R88), for the id that
Table 4-1's parameter of the mode gives, and none in LOW and DARK (R62). That every part
of the snapshot is taken from one and the same state is the model's choice (log 7): R89 lets parts of different owners be taken at
different moments. -/
def Obligations.BuildTimerStartsOrSkips : Prop :=
  (modeDist .town = some .modeDistTown ∧ modeDist .country = some .modeDistCountry ∧
    modeDist .motorway = some .modeDistMotorway ∧ modeDist .mountain = some .modeDistMountain ∧
    modeDist .weather = some .modeDistWeather ∧ modeDist .full = some .modeDistFull ∧ modeDist .low = none ∧
    modeDist .dark = none) ∧
  ∀ (s : State) (n : Nat), s.builder.timer = some n →
    (∀ b, s.builder.phase.build = some b →
      Gives .buildTimerExpiry s
        (raiseFault { kind := .buildOverrun, sequence := some b.sequence, link := none, item := none }
          { s with builder := { s.builder with timer := some 0 } })) ∧
    (∀ i : Fin 6, s.builder.phase.build = none → (s.store.slot i).state = .free →
      (∀ j, j < i → (s.store.slot j).state ≠ .free) →
      ∃ (u : State) (b : Build), Gives .buildTimerExpiry s u ∧
        u.builder.timer = some 0 ∧ u.builder.phase = .computing b ∧ u.builder.mirror = s.builder.mirror ∧
        b.sequence = (if s.builder.mirror.sequence = 65535 then 1 else s.builder.mirror.sequence + 1) ∧ b.slot = i ∧
        u.store = { s.store with slots := s.store.slots.set i { s.store.slot i with state := .building } } ∧
        b.snapshot.tracks =
          ((s.tracks.filter fun e => decide ((committedCal s).nat .confMin ≤ e.conf) && e.cls != .otherLight).map fun e =>
            { cls := e.cls, thetaL := e.thetaL, thetaR := e.thetaR, phiT := e.phiT, dist := e.dist, age := e.age }) ∧
        b.snapshot.motion = s.motion.record ∧ b.snapshot.presence = s.motion.presence ∧
        (b.snapshot.kappa, b.snapshot.source) = curvature ((committedCal s).nat .laneConfMin) s.motion ∧
        b.snapshot.selection = selection s ∧ b.snapshot.request = s.selector.request ∧
        b.snapshot.roadClass = s.selector.roadClass ∧
        b.snapshot.lampL = { up := s.linkL.state == .up, temp := s.linkL.temp, dead := s.linkL.dead } ∧
        b.snapshot.lampR = { up := s.linkR.state == .up, temp := s.linkR.temp, dead := s.linkR.dead } ∧
        b.snapshot.previous = s.builder.mirror ∧
        (match modeDist (selection s).mode with
         | none =>
           b.snapshot.lookup = none ∧ u.cache = s.cache ∧ u.builder.workingCopy = s.builder.workingCopy ∧
             u.diag = s.diag ∧ u.cPort = s.cPort
         | some p =>
           let found := lookup ((committedCal s).nat p) b.sequence s
           b.snapshot.lookup = some found.2 ∧ u.cache = found.1.cache ∧
             u.builder.workingCopy = found.1.builder.workingCopy ∧ u.diag = found.1.diag ∧ u.cPort = found.1.cPort) ∧
        u.pending = s.pending ∧ u.operating = s.operating ∧ u.working = s.working ∧ u.committed = s.committed ∧
        u.tracks = s.tracks ∧ u.motion = s.motion ∧ u.selector = s.selector ∧ u.vision = s.vision ∧ u.linkL = s.linkL ∧
        u.linkR = s.linkR ∧ u.vPort = s.vPort ∧ u.reader = s.reader ∧ u.freeIndex = s.freeIndex)

/-- COMPUTE_COMPLETE completes for every build COMPUTING (R85, R91), while COMMIT, as it does until its first write (R92), waits for
nothing and makes no access. It fixes the frame with the header of Tables 6-2 and 6-3 and asks for the first write. L first and then R, a
RED lamp raises BUDGET_RED with the build's sequence and the lamp (R122) and a YELLOW one BUDGET_YELLOW (R121): the first BUDGET_RED
fills an empty capture record, and every other sets the further flag (R161). -/
def Obligations.ComputeCompleteFixesTheFrame : Prop :=
  ∀ (s : State) (b : Build), s.builder.phase = .computing b → s.store.waitCommit = none →
    s.store.accessOf .commit = none →
    ∃ (u : State) (f : Frame), Gives .computeComplete s u ∧ u.builder = { s.builder with phase := .committing b f 0 } ∧
      CommitAsks u.store 0 ∧ u.store.slots = s.store.slots ∧
      u.store = (requestPort .commit (.blockWrite .left 0) s).store ∧
      f = buildFrame (committedCal s) b.snapshot s.builder.workingCopy b.sequence ∧
      f.header.sequence = b.sequence ∧ f.left.length = 120 ∧ f.right.length = 120 ∧
      (if b.snapshot.selection.mode = .low ∨ b.snapshot.selection.mode = .dark then
        f.header.mode = b.snapshot.selection.mode ∧ f.header.reason = b.snapshot.selection.reason ∧
          f.header.distHeld = false
      else if b.snapshot.lookup = some .hit then
        f.header.mode = b.snapshot.selection.mode ∧ f.header.reason = b.snapshot.selection.reason ∧
          f.header.distHeld = false
      else if s.builder.workingCopy.isSome = true then
        f.header.mode = b.snapshot.selection.mode ∧ f.header.reason = b.snapshot.selection.reason ∧
          f.header.distHeld = true
      else f.header.mode = .low ∧ f.header.reason = .distMissing ∧ f.header.distHeld = false) ∧
      f.header.lowOn = (f.header.mode != .dark) ∧
      ¬(f.header.yellowL = true ∧ f.header.clampedL = true) ∧ ¬(f.header.yellowR = true ∧ f.header.clampedR = true) ∧
      (let red := f.header.clampedL || f.header.clampedR
       let report := fun (lamp : Side) =>
        ({ kind := .budgetRed, sequence := some b.sequence, link := some lamp, item := none } : FaultReport)
       let banded := fun (lamp : Side) (yellow clamped : Bool) (v : State) =>
        if clamped then raiseFault (report lamp) v else if yellow then raiseNotice .budgetYellow v else v
       let raised := banded .right f.header.yellowR f.header.clampedR (banded .left f.header.yellowL f.header.clampedL s)
       u.diag.summary = (if red = true then s.diag.summary ||| FaultKind.budgetRed.bit else s.diag.summary) ∧
        (s.diag.capture = none →
          u.diag.capture =
            if f.header.clampedL = true then some { report := report .left, further := f.header.clampedR }
            else if f.header.clampedR = true then some { report := report .right, further := false }
            else none) ∧
        (∀ c, s.diag.capture = some c → u.diag.capture = some { report := c.report, further := c.further || red }) ∧
        u.diag.notices =
          s.diag.notices ||| (if f.header.yellowL = true ∨ f.header.yellowR = true then 8#8 else 0) |||
            (if red = true ∧ s.diag.capture = none then 4#8 else 0) ∧
        u.diag = raised.diag ∧ u.cPort = { raised.cPort with diagReply := u.cPort.diagReply } ∧
        (NoDiagAtIdlePort s.store → u.cPort.diagReply = s.cPort.diagReply)) ∧
      u.tracks = s.tracks ∧ u.motion = s.motion ∧ u.selector = s.selector ∧ u.vision = s.vision ∧ u.cache = s.cache ∧
      u.linkL = s.linkL ∧ u.linkR = s.linkR ∧ u.operating = s.operating ∧ u.committed = s.committed ∧
      u.working = s.working ∧ u.vPort = s.vPort ∧ u.reader = s.reader ∧ u.pending = s.pending ∧
      u.freeIndex = s.freeIndex

/-- COMMIT_BLOCK_WRITE_DONE: the block's 24 values, row 0 first, stand in the build's slot, and the port is released and COMMIT
asks for its next write, of the eleven in the order of R92; the slot table and every other block of every slot are as they were. -/
def Obligations.CommitBlockWriteStoresItsBlock : Prop :=
  ((List.range 11).map commitWrite =
    [.blockWrite .left 0, .blockWrite .left 1, .blockWrite .left 2, .blockWrite .left 3, .blockWrite .left 4,
     .blockWrite .right 0, .blockWrite .right 1, .blockWrite .right 2, .blockWrite .right 3, .blockWrite .right 4,
     .headerWrite]) ∧
  ∀ (s : State) (b : Build) (f : Frame) (n : Nat) (w : PortUse) (lamp : Side) (k : Fin 5),
    s.builder.phase = .committing b f n → s.store.busy = some w → w.requester = .commit →
    w.access = .blockWrite lamp k → s.store.waitCommit = none →
    ∃ u v : State, Gives .commitBlockWriteDone s u ∧ u.builder = { s.builder with phase := .committing b f (n + 1) } ∧
      u = requestPort .commit (commitWrite (n + 1)) (releasePort v) ∧ u.store.slots = v.store.slots ∧
      v =
        { s with
          store := { s.store with slots := v.store.slots }
          builder := { s.builder with phase := .committing b f (n + 1) } } ∧
      CommitAsks u.store (n + 1) ∧
      (u.store.slot b.slot).memory.block lamp k =
        (List.range 24).map (fun i => (f.values lamp).getD (i / 8 * 40 + (8 * k.val + i % 8)) 0) ∧
      (∀ (i : Fin 6) (x : Side) (j : Fin 5), (i = b.slot → x = lamp → j ≠ k) →
        (u.store.slot i).memory.block x j = (s.store.slot i).memory.block x j) ∧
      (∀ i : Fin 6, (u.store.slot i).memory.header = (s.store.slot i).memory.header ∧
        (u.store.slot i).state = (s.store.slot i).state ∧ (u.store.slot i).newest = (s.store.slot i).newest ∧
        (u.store.slot i).holders = (s.store.slot i).holders ∧ (u.store.slot i).sequence = (s.store.slot i).sequence) ∧
      u.tracks = s.tracks ∧ u.motion = s.motion ∧ u.selector = s.selector ∧ u.cache = s.cache ∧ u.linkL = s.linkL ∧
      u.linkR = s.linkR ∧ u.operating = s.operating ∧ u.diag = s.diag ∧ u.vPort = s.vPort

/-- R93, R127: the header write completes the commit. The slot is STORED and newest; the slot that was newest is FREE unless it is
held; the mirror takes the frame; MODE_CHANGED and FALLBACK_CHANGED are raised on a difference; LITMAP and STATUS are placed. Then the port
is released, whoever waits for it (`Obligations.PortGrantsInCycleOrder`, `Obligations.FrameBlockReadIsJudgedAtItsGrant`). -/
def Obligations.CommitHeaderWriteCompletesTheCommit : Prop :=
  ∀ (s : State) (b : Build) (f : Frame) (n : Nat) (w : PortUse),
    StoreInv s → s.builder.phase = .committing b f n → s.store.busy = some w → w.requester = .commit →
    w.access = .headerWrite →
    ∃ u : State, Gives .commitHeaderWriteDone s (releasePort u) ∧ u.store = { s.store with slots := u.store.slots } ∧
      u.builder = { s.builder with phase := .idle, mirror := frameToMirror f } ∧
      (∀ i : Fin 6, u.store.slot i =
        let sl := s.store.slot i
        if i = b.slot then
          { sl with
            state := .stored, newest := true, holders := noHolders, sequence := some b.sequence
            memory := { sl.memory with header := f.header } }
        else if sl.newest = true then
          if sl.holders = noHolders then { sl with state := .free, newest := false, sequence := none }
          else { sl with newest := false }
        else sl) ∧
      u.diag =
        { s.diag with
          notices :=
            s.diag.notices ||| (if f.header.mode = b.snapshot.previous.mode then 0 else 1#8) |||
              (if f.header.reason = b.snapshot.previous.reason then 0 else 2#8) } ∧
      (∃ m ∈ u.vPort.litmap, m.sequence = f.header.sequence ∧ m.maps.length = 6 ∧
        ∀ r c : Nat, r < 3 → c < 40 →
          (m.maps[r]?.bind (·[c]?)) = some (decide (f.left.getD (r * 40 + c) 0 < 32)) ∧
            (m.maps[3 + r]?.bind (·[c]?)) = some (decide (f.right.getD (r * 40 + c) 0 < 32))) ∧
      (∃ r ∈ u.cPort.status, r.atCommit = true ∧ r.header = f.header ∧ r.operating = s.operating ∧
        r.selection = b.snapshot.selection ∧ r.roadClass = b.snapshot.roadClass ∧ r.source = b.snapshot.source ∧
        r.request = b.snapshot.request ∧ r.notices = u.diag.notices ∧ r.summary = u.diag.summary ∧ r.AsStands u) ∧
      (let mode := if f.header.mode = b.snapshot.previous.mode then s else raiseNotice .modeChanged s
       let noticed := if f.header.reason = b.snapshot.previous.reason then mode else raiseNotice .fallbackChanged mode
       u.cPort = { noticed.cPort with status := u.cPort.status }) ∧
      u.vPort = { s.vPort with litmap := u.vPort.litmap } ∧
      u.tracks = s.tracks ∧ u.motion = s.motion ∧ u.selector = s.selector ∧ u.cache = s.cache ∧ u.linkL = s.linkL ∧
      u.linkR = s.linkR ∧ u.operating = s.operating ∧ u.reader = s.reader ∧ u.vision = s.vision ∧
      u.working = s.working ∧ u.committed = s.committed ∧ u.pending = s.pending ∧ u.freeIndex = s.freeIndex

/-- R34 to R37: the bend moves toward the target, the preview angle times the gain within ±bend_max and 0 in reverse, by at most
bend_step, and never leaves ±bend_max; the levelling target follows the chassis pitch while FRESH and is held else. Rounding is to the
nearest integer, halves away from zero, and clamping to a range's ends (5.2). -/
def Obligations.BendStepsTowardItsTarget : Prop :=
  (∀ (n : Int) (d : Nat), 0 < d →
    2 * (n - roundDiv n d * d).natAbs ≤ d ∧
      (2 * (n - roundDiv n d * d).natAbs = d → n.natAbs < (roundDiv n d * d).natAbs)) ∧
  (∀ lo hi x : Int, lo ≤ hi → clamp lo hi x = max lo (min hi x)) ∧
  ∀ (c : CalSet) (snap : Snapshot) (workingCopy : Option (List Nat)) (sequence : Nat), c.InRange →
    let h := (buildFrame c snap workingCopy sequence).header
    let speed := match snap.presence, snap.motion with
      | .lost, _ => 0
      | _, none => 0
      | _, some m => m.v
    let psi := roundDiv (snap.kappa * ((speed * c.nat .tPrev / 1000 : Nat) : Int)) 34907
    let gain := roundDiv (psi * c.get .bendGain) 256
    let bendMax := c.get .bendMax
    let bendStep := c.get .bendStep
    let target := if ∃ m ∈ snap.motion, m.reverse = true then 0 else max (-bendMax) (min bendMax gain)
    let previous := snap.previous.bend
    (h.bend - previous ≤ bendStep ∧ previous - h.bend ≤ bendStep) ∧
    (target - previous ≤ bendStep → previous - target ≤ bendStep → h.bend = target) ∧
    (bendStep < target - previous → h.bend = previous + bendStep) ∧
    (bendStep < previous - target → h.bend = previous - bendStep) ∧
    (-bendMax ≤ previous → previous ≤ bendMax → -bendMax ≤ h.bend ∧ h.bend ≤ bendMax) ∧
    (∀ m ∈ snap.motion, snap.presence = .fresh →
      h.level = max (-300) (min 300 (c.get .levelOffset - m.pCh))) ∧
    (snap.presence ≠ .fresh → h.level = snap.previous.level)

/-- R98 to R105: a zone's extent on a lamp, and that it takes a column exactly when the extent touches the column's angles, and a row
exactly when the row's lower edge is less than the zone's top. -/
def Obligations.ZoneCoversWhatItsExtentTouches : Prop :=
  ∀ (c : CalSet) (snap : Snapshot) (lamp : Side) (t : TrackCopy), c.InRange →
    let dw : Nat := if t.dist = 0 then c.nat .dFar else if t.dist < 30 then 30 else t.dist
    let offset := match lamp with
      | .left => c.get .lampOffsetL
      | .right => c.get .lampOffsetR
    let delta := max (-500) (min 500 (roundDiv (offset * 3667) (64 * dw)))
    let deltaV := max (-500) (min 500 (roundDiv (c.get .camHeight * 3667) (64 * dw)))
    let growth := if t.age ≤ c.nat .coastStart then 0 else c.nat .coastGrow * ((t.age - c.nat .coastStart) / 20)
    let pitch := match snap.motion with
      | some m => m.pCab
      | none => 0
    let zL := t.thetaL - delta - (marginH c t.cls + growth : Nat)
    let zR := t.thetaR - delta + (marginH c t.cls + growth : Nat)
    let top := t.phiT - pitch + deltaV + (marginV c t.cls : Nat)
    t.thetaL ≤ t.thetaR →
    (t.cls = .oncoming → marginH c t.cls = c.nat .marginHOncoming ∧ marginV c t.cls = c.nat .marginVOncoming) ∧
    (t.cls = .preceding → marginH c t.cls = c.nat .marginHPreceding ∧ marginV c t.cls = c.nat .marginVPreceding) ∧
    (t.cls = .sign → marginH c t.cls = c.nat .marginHSign ∧ marginV c t.cls = c.nat .marginVSign) ∧
    zL ≤ zR ∧
    (∀ col : Nat, col < 40 →
      ((∃ cL cR, zoneColumns (zoneExtent c lamp t) = some (cL, cR) ∧ cL ≤ col ∧ col ≤ cR) ↔
        zL < -950 + 50 * (col : Int) ∧ -1000 + 50 * (col : Int) ≤ zR)) ∧
    (∀ r, r ∈ zoneRows c (zoneTop c snap t) ↔
      (r = 0 ∧ c.get .rowEdge0 < top) ∨ (r = 1 ∧ c.get .rowEdge1 < top) ∨ (r = 2 ∧ c.get .rowEdge2 < top)) ∧
    ((zoneOf c snap lamp t).isSome = true ↔
      (zoneColumns (zoneExtent c lamp t)).isSome = true ∧ zoneRows c (zoneTop c snap t) ≠ []) ∧
    (∀ z, zoneOf c snap lamp t = some z →
      zoneColumns (zoneExtent c lamp t) = some (z.cL, z.cR) ∧ z.rows = zoneRows c (zoneTop c snap t) ∧ z.rows ≠ [] ∧
        z.cL ≤ z.cR ∧ z.cR ≤ 39 ∧
        z.level = (if t.cls = .sign then c.nat .signLevel else c.nat .shadeLevel) ∧
        (z.leftShoulder = if (t.cls = .oncoming ∨ t.cls = .preceding) ∧ 1 ≤ z.cL then some (z.cL - 1) else none) ∧
        (z.rightShoulder = if (t.cls = .oncoming ∨ t.cls = .preceding) ∧ z.cR ≤ 38 then some (z.cR + 1) else none))

/-- The stages from the base value to the rise limit, each with its exact value (R112 to R118): the least of the base value, the levels of
the zones over the segment and the shoulder bound where a shoulder lies on it; 0 for a dead segment; then, without the flash mark, a rise
of at most `rise` over the previous frame. So, after the budget stage too, no segment in a zone exceeds the zone's level, a dead segment
is 0, and no segment exceeds the previous value plus rise or its base value. -/
def Obligations.StagesOnlyLowerTheBaseValue : Prop :=
  ∀ (c : CalSet) (snap : Snapshot) (workingCopy : Option (List Nat)) (sequence : Nat) (lamp : Side) (r col : Nat),
    r < 3 → col < 40 →
    let f := buildFrame c snap workingCopy sequence
    let v := (f.values lamp).getD (r * 40 + col) 0
    (f.header.mode.shading = true → ∀ t ∈ snap.tracks, ∀ z, zoneOf c snap lamp t = some z →
      z.cL ≤ col → col ≤ z.cR → r ∈ z.rows → v ≤ z.level) ∧
    (r * 40 + col ∈ (snap.lampStatus lamp).dead → v = 0) ∧
    (snap.selection.flash = false → v ≤ (snap.previous.values lamp).getD (r * 40 + col) 0 + c.nat .rise) ∧
    (f.header.mode = .low ∨ f.header.mode = .dark → v = 0) ∧
    (∀ dist, workingCopy = some dist → f.header.mode ≠ .low → f.header.mode ≠ .dark →
      let k := f.header.bend / 50
      let weight := (f.header.bend - 50 * k).toNat
      let at' : Int → Nat := fun j =>
        if 0 ≤ j ∧ j < 40 then
          match lamp with
          | .right => dist.getD (r * 40 + j.toNat) 0
          | .left => dist.getD (r * 40 + (39 - j.toNat)) 0
        else 0
      v ≤ (at' (col - k) * (50 - weight) + at' (col - k - 1) * weight + 25) / 50) ∧
    (let k := f.header.bend / 50
     let weight := (f.header.bend - 50 * k).toNat
     let dist := workingCopy.getD []
     let at' : Int → Nat := fun j =>
       if 0 ≤ j ∧ j < 40 then
         match lamp with
         | .right => dist.getD (r * 40 + j.toNat) 0
         | .left => dist.getD (r * 40 + (39 - j.toNat)) 0
       else 0
     let base :=
       if f.header.mode = .low ∨ f.header.mode = .dark then 0
       else (at' (col - k) * (50 - weight) + at' (col - k - 1) * weight + 25) / 50
     let zones :=
       if f.header.mode ∈ [.town, .country, .motorway, .mountain, .weather] then snap.tracks.filterMap (zoneOf c snap lamp)
       else []
     let inZone := fun (z : Zone) => z.cL ≤ col ∧ col ≤ z.cR ∧ r ∈ z.rows
     let inShoulder := fun (z : Zone) => (z.leftShoulder = some col ∨ z.rightShoulder = some col) ∧ r ∈ z.rows
     let bound := base * c.nat .shoulder / 256
     let p := (snap.previous.values lamp).getD (r * 40 + col) 0
     ∃ n : Nat,
       (n ≤ base ∧ (∀ z ∈ zones, (inZone z → n ≤ z.level) ∧ (inShoulder z → n ≤ bound)) ∧
         (n = base ∨ ∃ z ∈ zones, (inZone z ∧ n = z.level) ∨ (inShoulder z ∧ n = bound))) ∧
       let alive := if r * 40 + col ∈ (snap.lampStatus lamp).dead then 0 else n
       (risenValues (lampInputs c snap workingCopy lamp)).getD (r * 40 + col) 0 =
         if snap.selection.flash = true ∨ alive ≤ p then alive else min alive (p + c.nat .rise))

/-- No lamp's sum exceeds its effective budget, the budget derated above the knee and never below budget_min; the flags name the band:
clamped exactly when the sum before the budget stage exceeds the effective budget, and then each value is scaled by the floor. The values
before the budget stage are those of `Obligations.StagesOnlyLowerTheBaseValue`. -/
def Obligations.LampSumStaysWithinItsBudget : Prop :=
  ∀ (c : CalSet) (snap : Snapshot) (workingCopy : Option (List Nat)) (sequence : Nat) (lamp : Side), c.InRange →
    let f := buildFrame c snap workingCopy sequence
    let risen := risenValues (lampInputs c snap workingCopy lamp)
    let status := snap.lampStatus lamp
    let budget := c.get .budget
    let effective : Int := match status.up, status.temp with
      | true, some t => max (c.get .budgetMin) (budget - c.get .derate * max 0 (t - c.get .tKnee))
      | _, _ => budget
    let clamped := match lamp with
      | .left => f.header.clampedL
      | .right => f.header.clampedR
    let yellow := match lamp with
      | .left => f.header.yellowL
      | .right => f.header.yellowR
    ((f.values lamp).sum : Int) ≤ effective ∧
    (clamped = true ↔ effective < (risen.sum : Int)) ∧
    (yellow = true ↔
      0 < risen.sum ∧ effective - c.get .yellowBand < (risen.sum : Int) ∧ (risen.sum : Int) ≤ effective) ∧
    (clamped = true → f.values lamp = risen.map fun v => v * effective.toNat / risen.sum) ∧
    (clamped = false → f.values lamp = risen)

/-! ## Frame store's port -/

/-- R132: a request at an idle port is granted at once; at a completion the grant goes to the first waiting requester in the cycle
COMMIT, LINK-L, LINK-R, DIAG after the last-granted one; and each grant to another requester brings a waiting one nearer, so that it
waits for at most three. A grant changes the port and, where a diagnostic read is answered, its reply, and nothing else. DIAG's grants for
a STORED slot stand here, and for another slot in `Obligations.FrameBlockReadIsJudgedAtItsGrant`. -/
def Obligations.PortGrantsInCycleOrder : Prop :=
  (cycleAfter .commit = [.linkL, .linkR, .diag, .commit] ∧ cycleAfter .linkL = [.linkR, .diag, .commit, .linkL] ∧
    cycleAfter .linkR = [.diag, .commit, .linkL, .linkR] ∧ cycleAfter .diag = [.commit, .linkL, .linkR, .diag]) ∧
  (∀ (r : Requester) (a : PortAccess) (s u : State), u = requestPort r a s ∨ u = releasePort s →
    u = { s with store := u.store, cPort := { s.cPort with diagReply := u.cPort.diagReply } } ∧
      u.store.slots = s.store.slots) ∧
  (∀ (r : Requester) (a : PortAccess) (s : State), s.store.busy = none → (∀ q, s.store.waiting q = none) → a.isDiag = false →
    (requestPort r a s).store =
      { s.store with
        busy := some { requester := r, access := a, wanted := true, found := none }
        lastGranted := r }) ∧
  (∀ s : State, (∀ q, s.store.waiting q = none) → (releasePort s).store = { s.store with busy := none }) ∧
  (∀ (s : State) (earlier later : List Requester) (r : Requester) (a : PortAccess),
    cycleAfter s.store.lastGranted = earlier ++ r :: later → (∀ q ∈ earlier, s.store.waiting q = none) →
    s.store.waiting r = some a → a.isDiag = false →
      (releasePort s).store.busy = some { requester := r, access := a, wanted := true, found := none } ∧
        (releasePort s).store.lastGranted = r ∧ (releasePort s).store.waiting r = none ∧
        ∀ q, q ≠ r → (releasePort s).store.waiting q = s.store.waiting q) ∧
  (∀ (s : State) (earlier later : List Requester) (i : Fin 6) (x : Side) (k : Fin 5),
    cycleAfter s.store.lastGranted = earlier ++ .diag :: later → (∀ q ∈ earlier, s.store.waiting q = none) →
    s.store.waitDiag = some (.diagRead i x k) → (s.store.slot i).state = .stored →
      (releasePort s).store.busy.map (fun w => (w.requester, w.access)) = some (.diag, .diagRead i x k) ∧
        (releasePort s).store.lastGranted = .diag ∧ (releasePort s).store.waitDiag = none ∧
        ∀ q, q ≠ .diag → (releasePort s).store.waiting q = s.store.waiting q) ∧
  (∀ (last r g : Requester) (earlier later : List Requester),
    cycleAfter last = earlier ++ r :: later → g ∈ earlier →
      ∃ earlier' later', cycleAfter g = earlier' ++ r :: later' ∧ earlier'.length < earlier.length ∧ earlier.length ≤ 3)

/-! ## Lamp links -/

/-- R138: a link frame counts as received exactly when its CRC-16 agrees, its kind is a lamp-to-part kind and its length is its
kind's; every other frame has no effect at all. The CRC is that of 10.4. A valid frame has the fields of Table 10-6, most significant
byte first; that bits no field takes are not examined is the model's choice (log 11). -/
def Obligations.InvalidLinkFrameHasNoEffect : Prop :=
  CrcOk ∧
  (∀ (high low flags : Byte) (entries : List Byte), entries.length ≤ 16 →
    lampFrame (withCrc ([0x20, high, low, flags, BitVec.ofNat 8 entries.length] ++ entries)) =
      some (.lampState (high ++ low).toInt (flags.getLsbD 0) (entries.map (·.toNat)))) ∧
  (∀ high low flags : Byte,
    lampFrame (withCrc [0x21, high, low, flags]) =
      some (.fetch (high ++ low).toNat (flags.getLsbD 0) (flags.getLsbD 1))) ∧
  (∀ tag code : Byte,
    let step := [TransferStep.header, .block 0, .block 1, .block 2, .block 3, .block 4, .finish][code.toNat]?
    lampFrame (withCrc [0x22, tag, code]) = some (.ack (tag.toNat % 16) step) ∧
      lampFrame (withCrc [0x23, tag, code]) = some (.retry (tag.toNat % 16) step)) ∧
  (∀ tag : Byte, lampFrame (withCrc [0x24, tag]) = some (.quit tag.toNat)) ∧
  ∀ bytes : List Byte,
    ((lampFrame bytes).isSome = true ↔
      ∃ (kind : Byte) (body : List Byte), bytes = withCrc (kind :: body) ∧
        ((kind = 0x20 ∧ body.length = 4 + byteAt body 3 ∧ byteAt body 3 ≤ 16) ∨ (kind = 0x21 ∧ body.length = 3) ∨
          (kind = 0x22 ∧ body.length = 2) ∨ (kind = 0x23 ∧ body.length = 2) ∨ (kind = 0x24 ∧ body.length = 1))) ∧
    (lampFrame bytes = none → ∀ (x : Side) (s : State),
      exec (.lampState x bytes) s = .next s ∧ exec (.fetch x bytes) s = .next s ∧ exec (.ack x bytes) s = .next s ∧
        exec (.retry x bytes) s = .next s ∧ exec (.quit x bytes) s = .next s)

/-- A completed header or block read whose result is wanted forms the HEADER or BLOCK frame, which is sent or waits for the wire; the
result of a given-up read is discarded; then the port is released, whoever waits for it (`Obligations.PortGrantsInCycleOrder`,
`Obligations.FrameBlockReadIsJudgedAtItsGrant`). A frame's end on the wire lets the waiting frame follow. That block k of the map is bit k
and that bits no field takes are sent as 0 are the model's choices (logs 22 and 23). -/
def Obligations.LinkReadFormsItsFrame : Prop :=
  CrcOk ∧ SentFieldsOk ∧ (∀ m : BeamMode, modesByCode[m.code]? = some m) ∧
  (∀ r : FallbackReason, reasonsByCode[r.code]? = some r) ∧
  ∀ (x : Side) (s : State),
    let l := s.link x
    let sent := fun (bytes : List Byte) =>
      s.setLink x (if l.wire.isNone then { l with wire := some bytes } else { l with waiting := some bytes })
    (∀ (w : PortUse) (i : Fin 6), s.store.busy = some w → w.requester = linkRequester x → w.access = .headerRead i →
      w.wanted = false → Gives (.linkHeaderReadDone x) s (releasePort s)) ∧
    (∀ (w : PortUse) (i : Fin 6) (k : Fin 5), s.store.busy = some w → w.requester = linkRequester x →
      w.access = .blockRead i x k → w.wanted = false → Gives (.linkBlockReadDone x) s (releasePort s)) ∧
    (∀ (t : Transfer) (w : PortUse) (i : Fin 6), l.transfer = some t → s.store.busy = some w →
      w.requester = linkRequester x → w.access = .headerRead i → w.wanted = true →
      let h := (s.store.slot i).memory.header
      let flags := match x with
        | .left => [h.lowOn, h.distHeld, h.yellowL, h.clampedL]
        | .right => [h.lowOn, h.distHeld, h.yellowR, h.clampedR]
      let mapBits := [0, 1, 2, 3, 4].map t.map.contains
      let bytes := withCrc
        ([0x10, putByte t.tag] ++ put16 h.sequence ++ [putByte h.mode.code, putByte h.reason.code, flagByte flags] ++
          putSigned16 h.level ++ putSigned16 h.bend ++ [flagByte (mapBits ++ [false, false, t.same])])
      Gives (.linkHeaderReadDone x) s (releasePort (sent bytes))) ∧
    (∀ (t : Transfer) (w : PortUse) (i : Fin 6) (k : Fin 5), l.transfer = some t → s.store.busy = some w →
      w.requester = linkRequester x → w.access = .blockRead i x k → w.wanted = true →
      let bytes := withCrc
        ([0x11, putByte t.tag] ++ put16 t.sequence ++ [putByte k.val] ++ ((s.store.slot i).memory.block x k).map putByte)
      Gives (.linkBlockReadDone x) s (releasePort (sent bytes))) ∧
    (l.wire.isSome = true →
      ∃ u, Gives (.linkFrameSendEnd x) s u ∧ LinkFrame x s u ∧ SamePorts s u ∧ u.store = s.store ∧
        u.link x = { l with wire := l.waiting, waiting := none })

/-- A block compare that differs adds its block to the map, and the port is released, whoever waits for it
(`Obligations.PortGrantsInCycleOrder`, `Obligations.FrameBlockReadIsJudgedAtItsGrant`); compares 0 to 3 are followed by the next, and
compare 4 by the first attempt of HEADER. The result of a given-up compare is discarded. That an attempt takes back a frame still waiting
for the wire, here and in the statements below that begin one, is the model's choice (log 9). -/
def Obligations.BlockComparesFormTheMap : Prop :=
  ∀ (x : Side) (s : State) (w : PortUse) (a b : Fin 6) (k : Fin 5),
    s.store.busy = some w → w.requester = linkRequester x → w.access = .compare a b x k →
    (w.wanted = false → Gives (.blockCompareDone x) s (releasePort s)) ∧
    ∀ t : Transfer, (s.link x).transfer = some t → w.wanted = true →
    let differ := (s.store.slot a).memory.block x k ≠ (s.store.slot b).memory.block x k
    let noted : Transfer := if differ then { t with map := t.map ++ [k] } else t
    let v := releasePort (s.setLink x { s.link x with transfer := some noted })
    (∀ h : k.val + 1 < 5,
      Gives (.blockCompareDone x) s (requestPort (linkRequester x) (.compare a b x ⟨k.val + 1, h⟩) v)) ∧
    (k.val = 4 → (∀ r, r ≠ .diag → ∀ q ∈ s.store.waiting r, q.isDiag = false) →
      ∃ u, Gives (.blockCompareDone x) s u ∧ LinkFrame x s u ∧ SamePorts v u ∧ u.store.slots = s.store.slots ∧
        AttemptBegun x { noted with step := .header } s u ∧ PortAsked x (.headerRead noted.slot) v u)

/-- LAMP_STATE: the link is UP with its timer from 0 and its status replaced; LINK_CHANGED on coming UP or on another supply-ok flag;
DEAD_LIMIT when the dead set reaches the limit with the flag clear. -/
def Obligations.LampStateReplacesLampStatus : Prop :=
  ∀ (x : Side) (bytes : List Byte) (temp : Int) (ok : Bool) (entries : List Nat) (s : State),
    lampFrame bytes = some (.lampState temp ok entries) →
    let l := s.link x
    ∃ dead : List Nat, dead.Pairwise (· < ·) ∧ (∀ i, i ∈ dead ↔ i < 120 ∧ i ∈ entries) ∧
      let atLimit := (activeCal s).nat .deadLimit ≤ dead.length
      let taken := s.setLink x
        { l with
          state := .up, statusTimer := some 0, temp := some (clamp (-40) 150 temp), supplyOk := some ok, dead := dead
          deadLimitFlag := decide atLimit }
      let noticed := if l.state = .down ∨ l.supplyOk ≠ some ok then raiseNotice .linkChanged taken else taken
      Gives (.lampState x bytes) s
        (if atLimit ∧ l.deadLimitFlag = false then
          raiseFault { kind := .deadLimit, sequence := none, link := some x, item := none } noticed
        else noticed)

/-- R137, R133: the status timer's expiry aborts the transfer, withdraws its request and leaves the other requesters', releases both
holds, makes the lamp status unknown and the link DOWN, and raises LINK_DOWN and LINK_CHANGED. -/
def Obligations.StatusTimerTakesTheLinkDown : Prop :=
  ∀ (x : Side) (s : State) (n : Nat), (s.link x).statusTimer = some n →
    ∃ v, Gives (.statusTimerExpiry x) s
        (raiseNotice .linkChanged
          (raiseFault { kind := .linkDown, sequence := none, link := some x, item := none } v)) ∧
      LinkFrame x s v ∧ SamePorts s v ∧
      v.link x =
        { s.link x with
          state := .down, statusTimer := none, temp := none, supplyOk := none, dead := [], deadLimitFlag := false
          transfer := none, applied := none, waiting := none } ∧
      v.store.linkAsks x = none ∧ PortKept x none s v ∧
      ∀ i : Fin 6,
        let sl := s.store.slot i
        let left := (sl.holders.put x .incoming false).put x .applied false
        v.store.slot i =
          if sl.holders.has x .incoming = true ∨ sl.holders.has x .applied = true then
            if sl.state = .stored ∧ sl.newest = false ∧ left = noHolders then
              { sl with state := .free, holders := left, sequence := none }
            else { sl with holders := left }
          else sl

/-- R143, R144, R151: a FETCH on an UP link takes the newest slot as incoming under the next tag, whether or not a transfer is in
progress, and forms the map by the first row of Table 8-3 that applies; on a DOWN link it is ignored. A frame still waiting for the wire
is taken back (the model's choice, log 9). -/
def Obligations.FetchTakesTheNewestFrame : Prop :=
  ∀ (x : Side) (bytes : List Byte) (applied : Nat) (full absent : Bool) (s : State),
    lampFrame bytes = some (.fetch applied full absent) → NoDiagAtIdlePort s.store →
    let l := s.link x
    (l.state = .down → exec (.fetch x bytes) s = .next s) ∧
    (l.state = .up → ∀ (n : Fin 6) (q : Nat), (s.store.slot n).newest = true →
      (∀ i, (s.store.slot i).newest = true → i = n) → (s.store.slot n).sequence = some q →
      let tag := (l.tagCounter + 1) % 16
      let start : Transfer :=
        { tag := tag, slot := n, sequence := q, map := [], same := false, step := .header, retries := 0
          replyTimer := none }
      let s' := s.setLink x { l with tagCounter := tag }
      let agreed := fun (a : AppliedHold) => l.applied = some a ∧ full = false ∧ absent = false ∧ applied = a.sequence
      ∃ u, Gives (.fetch x bytes) s u ∧ LinkFrame x s u ∧ SamePorts s u ∧
        (∀ i : Fin 6,
          if i = n then
            u.store.slot i = { s.store.slot i with holders := (s.store.slot i).holders.put x .incoming true }
          else
            ∃ released : State, IncomingReleased x s released ∧ u.store.slot i = released.store.slot i) ∧
        ((∀ a, ¬agreed a) → AttemptBegun x { start with map := [0, 1, 2, 3, 4] } s' u ∧ AttemptPort x start s u) ∧
        (∀ a, agreed a → a.slot = n → AttemptBegun x { start with same := true } s' u ∧ AttemptPort x start s u) ∧
        (∀ a, agreed a → a.slot ≠ n →
          u.link x = { l with tagCounter := tag, transfer := some { start with step := .compare }, waiting := none } ∧
            u.store.linkAsks x = some (.compare n a.slot x 0) ∧ PortAsked x (.compare n a.slot x 0) s u))

/-- R148, R150: an ACK of the current step begins the next step, the next block of the map or END, and an ACK of END promotes the
incoming hold to applied and ends the transfer; an ACK that does not match, and every ACK in COMPARE, is ignored. A frame still waiting
for the wire is taken back (the model's choice, log 9). -/
def Obligations.AckAdvancesOrCompletes : Prop :=
  ∀ (x : Side) (bytes : List Byte) (tag : Nat) (step : Option TransferStep) (s : State),
    lampFrame bytes = some (.ack tag step) →
    let l := s.link x
    ((l.state = .down ∨ ∀ t ∈ l.transfer, t.tag ≠ tag ∨ step ≠ some t.step ∨ t.step = .compare) →
      exec (.ack x bytes) s = .next s) ∧
    (l.state = .up → ∀ t, l.transfer = some t → t.tag = tag → step = some t.step → NoDiagAtIdlePort s.store →
      (t.step = .finish →
        ∃ u, Gives (.ack x bytes) s u ∧ LinkFrame x s u ∧ SamePorts s u ∧ u.store.linkAsks x = none ∧
          PortKept x none s u ∧
          u.link x =
            { l with transfer := none, applied := some { slot := t.slot, sequence := t.sequence }, waiting := none } ∧
          ∀ i : Fin 6,
            let sl := s.store.slot i
            let left := sl.holders.put x .applied false
            u.store.slot i =
              if sl.holders.has x .incoming = true then
                { sl with holders := (sl.holders.put x .incoming false).put x .applied true }
              else if sl.holders.has x .applied = true then
                if sl.state = .stored ∧ sl.newest = false ∧ left = noHolders then
                  { sl with state := .free, holders := left, sequence := none }
                else { sl with holders := left }
              else sl) ∧
      ((t.step = .header ∨ ∃ k, t.step = .block k) →
        let after := match t.step with
          | .block k => t.map.filter fun j => decide (k < j)
          | _ => t.map
        ∃ u, Gives (.ack x bytes) s u ∧ LinkFrame x s u ∧ SamePorts s u ∧ u.store.slots = s.store.slots ∧
          match after with
          | [] => AttemptBegun x { t with step := .finish } s u ∧ AttemptPort x { t with step := .finish } s u
          | j :: _ => AttemptBegun x { t with step := .block j } s u ∧ AttemptPort x { t with step := .block j } s u))

/-- R147, R148, R149: a RETRY that does not match is ignored: on a DOWN link, in IDLE, with another tag or step, and every RETRY in
COMPARE. A matching RETRY and a reply timeout begin a new attempt of the same step with one more resend used, or at three resends
fail the transfer: the incoming hold is released and LINK_TRANSFER_FAILED raised; the applied hold stays. A frame still waiting for the
wire is taken back (the model's choice for a new attempt, log 9). -/
def Obligations.ResendDemandRetriesOrFails : Prop :=
  (∀ (x : Side) (bytes : List Byte) (tag : Nat) (step : Option TransferStep) (s : State),
    lampFrame bytes = some (.retry tag step) →
    ((s.link x).state = .down ∨
      ∀ t ∈ (s.link x).transfer, t.tag ≠ tag ∨ step ≠ some t.step ∨ t.step = .compare) →
    exec (.retry x bytes) s = .next s) ∧
  ∀ (x : Side) (c : Instr) (s : State) (t : Transfer),
    (s.link x).transfer = some t → t.step ≠ .compare → NoDiagAtIdlePort s.store →
    ((∃ bytes, c = .retry x bytes ∧ lampFrame bytes = some (.retry t.tag (some t.step)) ∧ (s.link x).state = .up) ∨
      (c = .replyTimeout x ∧ t.replyTimer.isSome = true)) →
    (t.retries < 3 →
      ∃ u, Gives c s u ∧ LinkFrame x s u ∧ SamePorts s u ∧ u.store.slots = s.store.slots ∧
        AttemptBegun x { t with retries := t.retries + 1 } s u ∧ AttemptPort x t s u) ∧
    (3 ≤ t.retries →
      ∃ v, Gives c s
          (raiseFault { kind := .linkTransferFailed, sequence := none, link := some x, item := some (.step t.step) } v) ∧
        LinkFrame x s v ∧ SamePorts s v ∧ IncomingReleased x s v ∧ v.store.linkAsks x = none ∧
        PortKept x none s v ∧
        v.link x = { s.link x with transfer := none, waiting := none })

/-- R152: a matching QUIT abandons the transfer in any step, with no fault and the applied hold unchanged; another QUIT is ignored. -/
def Obligations.QuitAbandonsTheTransfer : Prop :=
  ∀ (x : Side) (bytes : List Byte) (tag : Nat) (s : State), lampFrame bytes = some (.quit tag) →
    ((s.link x).state = .down ∨ (∀ t ∈ (s.link x).transfer, t.tag ≠ tag) → exec (.quit x bytes) s = .next s) ∧
    ((s.link x).state = .up → ∀ t, (s.link x).transfer = some t → t.tag = tag →
      ∃ u, Gives (.quit x bytes) s u ∧ LinkFrame x s u ∧ SamePorts s u ∧ IncomingReleased x s u ∧
        u.store.linkAsks x = none ∧ PortKept x none s u ∧ u.link x = { s.link x with transfer := none, waiting := none })

/-! ## Diagnostic unit -/

/-- R159, R161, R165, R166: a fault joins the summary; it fills an empty capture record and raises FAULT_CAPTURED, which makes or joins
a NOTICE when it enters the pending set unmasked; it sets the further flag of a filled record and changes nothing else of it. A notice
of any kind joins the pending set and makes or joins a NOTICE in the same way. Kinds stand in the orders of Tables 9-1 and 9-4. -/
def Obligations.FaultJoinsSummaryAndCapture : Prop :=
  ([FaultKind.motionLost, .visionLost, .motionFrozen, .distUnavailable, .distParity, .linkDown, .linkTransferFailed,
      .budgetRed, .deadLimit, .buildOverrun, .tableFull, .badMessage, .requestRefused, .calRefused].map FaultKind.order =
    List.range' 1 14) ∧
  ([NoticeKind.modeChanged, .fallbackChanged, .faultCaptured, .budgetYellow, .linkChanged, .distMiss, .calClamped,
      .stateChanged].map NoticeKind.position = List.range 8) ∧
  (∀ (k : NoticeKind) (s : State),
    let bit := BitVec.ofNat 8 (2 ^ k.position)
    raiseNotice k s =
      if s.diag.notices.getLsbD k.position = true then s
      else
        { s with
          diag := { s.diag with notices := s.diag.notices ||| bit }
          cPort :=
            if s.diag.mask.getLsbD k.position = true then s.cPort
            else
              { s.cPort with
                notice := some (s.cPort.notice.getD 0 ||| ((s.diag.notices ||| bit) &&& ~~~s.diag.mask)) } }) ∧
  ∀ (f : FaultReport) (s : State),
    let u := raiseFault f s
    u = { s with diag := u.diag, cPort := u.cPort } ∧
    u.diag.summary = s.diag.summary ||| BitVec.ofNat 14 (2 ^ (f.kind.order - 1)) ∧ u.diag.mask = s.diag.mask ∧
    (∀ c, s.diag.capture = some c →
      u.diag.capture = some { report := c.report, further := true } ∧ u.diag.notices = s.diag.notices ∧
        u.cPort = s.cPort) ∧
    (s.diag.capture = none →
      u.diag.capture = some { report := f, further := false } ∧ u.diag.notices = s.diag.notices ||| 4#8 ∧
        u.cPort =
          if s.diag.notices.getLsbD 2 = true ∨ s.diag.mask.getLsbD 2 = true then s.cPort
          else
            { s.cPort with
              notice := some (s.cPort.notice.getD 0 ||| (u.diag.notices &&& ~~~s.diag.mask)) })

/-- R163, R168, R169: CLEAR_FAULTS removes the listed kinds and, with the release flag, empties the record; CLEAR_NOTICES removes the
listed kinds; NOTICE_MASK replaces the mask, and makes a NOTICE of every pending unmasked kind when it unmasks a pending one. -/
def Obligations.ClearFaultsClearNoticesAndMask : Prop :=
  ∀ (data : List Byte) (s : State), s.cPort.busOff = false →
    (data.length = 3 →
      Gives (.clearFaults data) s
        { s with
          diag :=
            { s.diag with
              summary := s.diag.summary &&& ~~~(BitVec.ofNat 14 (byteAt data 0 * 256 + byteAt data 1))
              capture := if (byteAt data 2).testBit 0 then none else s.diag.capture } }) ∧
    (data.length = 1 →
      let kinds := BitVec.ofNat 8 (byteAt data 0)
      let masked := { s with diag := { s.diag with mask := kinds } }
      Gives (.clearNotices data) s { s with diag := { s.diag with notices := s.diag.notices &&& ~~~kinds } } ∧
      (s.diag.notices &&& s.diag.mask &&& ~~~kinds = 0 → Gives (.noticeMask data) s masked) ∧
      (s.diag.notices &&& s.diag.mask &&& ~~~kinds ≠ 0 →
        Gives (.noticeMask data) s
          { masked with
            cPort := { s.cPort with notice := some (s.cPort.notice.getD 0 ||| (s.diag.notices &&& ~~~kinds)) } }))

/-- R21, R81, R164, R178: with the reader not busy, a read of a track entry, the capture record, a cache slot or the lookup history is
answered from its owner's state, EMPTY where there is none, and makes the reader busy; an unknown target is a BAD_MESSAGE; a busy
reader ignores every read. -/
def Obligations.DiagReadsAnswerFromTheirOwner : Prop :=
  ∀ (data : List Byte) (s : State), data.length = 4 → s.cPort.busOff = false →
    let reads : List Instr :=
      [.diagReadTrackEntry data, .diagReadFrameBlock data, .diagReadCaptureRecord data, .diagReadCacheSlot data,
       .diagReadLookupHistory data]
    let answered := fun (d : DiagData) =>
      { s with reader := some data, cPort := { s.cPort with diagReply := some { read := data, data := d } } }
    (s.reader.isSome = true → byteAt data 0 ≤ 4 → ∀ c ∈ reads, exec c s = .next s) ∧
    (s.reader = none → 4 < byteAt data 0 → ∀ c ∈ reads,
      Gives c s (raiseFault { kind := .badMessage, sequence := none, link := none, item := some (.message 0x277 0) } s)) ∧
    (s.reader = none → byteAt data 0 = 0 →
      Gives (.diagReadTrackEntry data) s
        (answered (match s.tracks[byteAt data 1]? with
          | some e => .track e
          | none => .empty))) ∧
    (s.reader = none → byteAt data 0 = 2 →
      Gives (.diagReadCaptureRecord data) s
        (answered (match s.diag.capture with
          | some c => .capture c
          | none => .empty))) ∧
    (s.reader = none → byteAt data 0 = 3 →
      (byteAt data 1 ≤ 3 → byteAt data 2 ≤ 1 →
        ∃ i : Fin 8, i.val = byteAt data 1 * 2 + byteAt data 2 ∧
          let sl := s.cache.slots.get i
          Gives (.diagReadCacheSlot data) s
            (answered (.cacheSlot
              { valid := sl.valid, tag := sl.tag
                locked := decide (s.cache.lockLevel ≥ byteAt data 2 + 1)
                disabled := if byteAt data 2 = 0 then s.cache.disableWay0 else s.cache.disableWay1
                lastUse := sl.lastUse }))) ∧
      (3 < byteAt data 1 ∨ 1 < byteAt data 2 → Gives (.diagReadCacheSlot data) s (answered .empty))) ∧
    (s.reader = none → byteAt data 0 = 4 →
      Gives (.diagReadLookupHistory data) s
        (answered (if s.cache.history = [] then .empty else .history s.cache.history)))

/-- R134: a read of a frame block outside the store is answered EMPTY; any other asks for the port as DIAG and is judged at its grant:
a STORED slot's block is read, with the slot table's fields, and a FREE or BUILDING slot is answered EMPTY, whether the grant is made
at once or, in its turn of the cycle, when the port becomes free. The read's completion queues the reply and releases the port, whoever
waits for it (`Obligations.PortGrantsInCycleOrder`). That a grant answered EMPTY leaves the port free with DIAG last granted, and so to
the next requester that waits, is the model's choice (log 12). -/
def Obligations.FrameBlockReadIsJudgedAtItsGrant : Prop :=
  (cycleAfter .commit = [.linkL, .linkR, .diag, .commit] ∧ cycleAfter .linkL = [.linkR, .diag, .commit, .linkL] ∧
    cycleAfter .linkR = [.diag, .commit, .linkL, .linkR] ∧ cycleAfter .diag = [.commit, .linkL, .linkR, .diag]) ∧
  (∀ (data : List Byte) (s : State), data.length = 4 → s.cPort.busOff = false → s.reader = none → byteAt data 0 = 1 →
    let empty := { s with reader := some data, cPort := { s.cPort with diagReply := some { read := data, data := .empty } } }
    (5 < byteAt data 1 ∨ 1 < byteAt data 2 ∨ 4 < byteAt data 3 → Gives (.diagReadFrameBlock data) s empty) ∧
    (∀ (i : Fin 6) (x : Side) (k : Fin 5), byteAt data 1 = i.val → byteAt data 2 = (if x = .left then 0 else 1) →
      byteAt data 3 = k.val →
      let access : PortAccess := .diagRead i x k
      let sl := s.store.slot i
      (s.store.busy.isSome = true →
        Gives (.diagReadFrameBlock data) s { s with reader := some data, store := { s.store with waitDiag := some access } }) ∧
      (s.store.busy = none → (∀ r, s.store.waiting r = none) →
        (∀ q, sl.state = .stored → sl.sequence = some q →
          Gives (.diagReadFrameBlock data) s
            { s with
              reader := some data
              store :=
                { s.store with
                  lastGranted := .diag
                  busy := some
                    { requester := .diag, access := access, wanted := true
                      found := some
                        { newest := sl.newest, holders := sl.holders, sequence := q, values := sl.memory.block x k } } } }) ∧
        (sl.state ≠ .stored →
          Gives (.diagReadFrameBlock data) s { empty with store := { s.store with lastGranted := .diag } })))) ∧
  (∀ (s : State) (earlier later : List Requester) (i : Fin 6) (x : Side) (k : Fin 5) (read : List Byte),
    s.store.waitDiag = some (.diagRead i x k) → s.reader = some read →
    cycleAfter s.store.lastGranted = earlier ++ .diag :: later → (∀ q ∈ earlier, s.store.waiting q = none) →
    let sl := s.store.slot i
    let answered :=
      { s with
        store := { s.store with waitDiag := none, lastGranted := .diag }
        cPort := { s.cPort with diagReply := some { read := read, data := .empty } } }
    (∀ q, sl.state = .stored → sl.sequence = some q →
      releasePort s =
        { s with
          store :=
            { s.store with
              waitDiag := none, lastGranted := .diag
              busy := some
                { requester := .diag, access := .diagRead i x k, wanted := true
                  found := some
                    { newest := sl.newest, holders := sl.holders, sequence := q, values := sl.memory.block x k } } } }) ∧
    (sl.state ≠ .stored → (∀ r, r ≠ .diag → ∀ a ∈ s.store.waiting r, a.isDiag = false) →
      releasePort s = releasePort answered) ∧
    (sl.state ≠ .stored → (∀ r, r ≠ .diag → s.store.waiting r = none) →
      releasePort s = { answered with store := { answered.store with busy := none } })) ∧
  (∀ (s : State) (w : PortUse) (d : FrameBlockData) (read : List Byte), s.store.busy = some w → w.requester = .diag →
    w.found = some d → s.reader = some read →
    Gives .diagBlockReadDone s
      (releasePort { s with cPort := { s.cPort with diagReply := some { read := read, data := .frameBlock d } } }))

/-- R161: over any step, a filled capture record keeps its kind and its fields, and its further flag is not cleared, except by a
CLEAR_FAULTS with release set or by power-on reset. -/
def Obligations.FilledCaptureRecordIsLocked : Prop :=
  ∀ (s t : State) (c : CaptureRecord), s.diag.capture = some c → step s = .next t →
    (∃ further, t.diag.capture = some { report := c.report, further := further } ∧ (c.further = true → further = true)) ∨
      (t.diag.capture = none ∧ ∃ rest, s.pending = .powerOnReset :: rest) ∨
      (t.diag.capture = none ∧ ∃ data rest, s.pending = .clearFaults data :: rest ∧ data.length = 3 ∧
        (byteAt data 2).testBit 0 = true)

/-! ## Invariants of every step -/

/-- R1: the track table never holds more than 24 entries, and no two of one id. -/
def Obligations.TrackTableKeptByEveryStep : Prop := KeptByStep TrackTableInv

/-- Parameters stay in range and the committed set passes the cross-checks; ages, release timers, the flash timer and the build timer
stay below their limits; no build and no entry stands in CONFIG. -/
def Obligations.CalibrationAndTimesKeptByEveryStep : Prop := KeptByStep fun s => CalibrationInv s ∧ TimesInv s

/-- Presences agree with their timers; the request is FLASH exactly while a flash is in progress; the gate is CLOSED while motion is
LOST. -/
def Obligations.PresenceAndSelectorKeptByEveryStep : Prop := KeptByStep PresenceInv

/-- R63: no distribution id is valid in two slots of the cache, nor the tag of two, and a tag lies in its slot's own set. -/
def Obligations.CacheTagsKeptByEveryStep : Prop := KeptByStep CacheInv

/-- R125: exactly one slot is newest, each link's roles stand in the slots of its record, unheld slots are FREE; and from every such
state each step completes: no command finds the store without a FREE slot or without a newest one. -/
def Obligations.StoreKeptAndNoStepStops : Prop := ∀ s, StoreInv s → ∃ t, step s = .next t ∧ StoreInv t

/-- R87, R90, R124: the newest slot holds exactly the mirror's frame, a build's sequence follows the newest frame's, and a commit with
`n` writes done has its first `n` blocks in its slot. -/
def Obligations.NewestFrameKeptByEveryStep : Prop := KeptByStep NewestFrameInv

/-- A DOWN link has no status, transfer or hold; a transfer carries the latest tag and at most three resends; a link asks the port only
for what its step needs of the slots it holds. -/
def Obligations.LinksKeptByEveryStep : Prop := KeptByStep LinksInv

/-- R116: every segment value of every frame of the part, and every distribution value, lies in 0 to 255. -/
def Obligations.SegmentValuesKeptByEveryStep : Prop := KeptByStep SegmentInv

/-- A free transmitter on the bus leaves no message waiting, and a bus-off port sends nothing; the diagnostic reader is busy exactly
while its request, its access or its reply stands; no request waits at an idle access port (R132). -/
def Obligations.PortsAndReaderKeptByEveryStep : Prop := KeptByStep PortsInv

/-- Every invariant holds right after power-on reset. -/
def Obligations.InvariantsHoldAfterReset : Prop := Inv State.reset
end

