-- ==== Sys2Proof/Laws/State.lean ====
section
/-! SUPPORT. One lemma per field per plain update of the state: what each update leaves, and what it writes. Each holds by `rfl`, so
that no later proof unfolds a record update. -/

namespace Sys2Proof.Machine

/-! ## A NOTICE made -/

@[simp] theorem makeNotice_pending (s : State) : (makeNotice s).pending = s.pending := rfl
@[simp] theorem makeNotice_operating (s : State) : (makeNotice s).operating = s.operating := rfl
@[simp] theorem makeNotice_working (s : State) : (makeNotice s).working = s.working := rfl
@[simp] theorem makeNotice_committed (s : State) : (makeNotice s).committed = s.committed := rfl
@[simp] theorem makeNotice_tracks (s : State) : (makeNotice s).tracks = s.tracks := rfl
@[simp] theorem makeNotice_motion (s : State) : (makeNotice s).motion = s.motion := rfl
@[simp] theorem makeNotice_selector (s : State) : (makeNotice s).selector = s.selector := rfl
@[simp] theorem makeNotice_vision (s : State) : (makeNotice s).vision = s.vision := rfl
@[simp] theorem makeNotice_cache (s : State) : (makeNotice s).cache = s.cache := rfl
@[simp] theorem makeNotice_builder (s : State) : (makeNotice s).builder = s.builder := rfl
@[simp] theorem makeNotice_store (s : State) : (makeNotice s).store = s.store := rfl
@[simp] theorem makeNotice_linkL (s : State) : (makeNotice s).linkL = s.linkL := rfl
@[simp] theorem makeNotice_linkR (s : State) : (makeNotice s).linkR = s.linkR := rfl
@[simp] theorem makeNotice_diag (s : State) : (makeNotice s).diag = s.diag := rfl
@[simp] theorem makeNotice_vPort (s : State) : (makeNotice s).vPort = s.vPort := rfl
@[simp] theorem makeNotice_cPort (s : State) :
    (makeNotice s).cPort = { s.cPort with notice := some (s.cPort.notice.getD 0 ||| s.diag.unmaskedPending) } := rfl
@[simp] theorem makeNotice_reader (s : State) : (makeNotice s).reader = s.reader := rfl
@[simp] theorem makeNotice_freeIndex (s : State) : (makeNotice s).freeIndex = s.freeIndex := rfl

/-! ## A DIST_REQUEST placed -/

@[simp] theorem placeDistRequest_pending (id : Nat) (s : State) : (placeDistRequest id s).pending = s.pending := rfl
@[simp] theorem placeDistRequest_operating (id : Nat) (s : State) : (placeDistRequest id s).operating = s.operating := rfl
@[simp] theorem placeDistRequest_working (id : Nat) (s : State) : (placeDistRequest id s).working = s.working := rfl
@[simp] theorem placeDistRequest_committed (id : Nat) (s : State) : (placeDistRequest id s).committed = s.committed := rfl
@[simp] theorem placeDistRequest_tracks (id : Nat) (s : State) : (placeDistRequest id s).tracks = s.tracks := rfl
@[simp] theorem placeDistRequest_motion (id : Nat) (s : State) : (placeDistRequest id s).motion = s.motion := rfl
@[simp] theorem placeDistRequest_selector (id : Nat) (s : State) : (placeDistRequest id s).selector = s.selector := rfl
@[simp] theorem placeDistRequest_vision (id : Nat) (s : State) : (placeDistRequest id s).vision = s.vision := rfl
@[simp] theorem placeDistRequest_cache (id : Nat) (s : State) : (placeDistRequest id s).cache = s.cache := rfl
@[simp] theorem placeDistRequest_builder (id : Nat) (s : State) : (placeDistRequest id s).builder = s.builder := rfl
@[simp] theorem placeDistRequest_store (id : Nat) (s : State) : (placeDistRequest id s).store = s.store := rfl
@[simp] theorem placeDistRequest_linkL (id : Nat) (s : State) : (placeDistRequest id s).linkL = s.linkL := rfl
@[simp] theorem placeDistRequest_linkR (id : Nat) (s : State) : (placeDistRequest id s).linkR = s.linkR := rfl
@[simp] theorem placeDistRequest_diag (id : Nat) (s : State) : (placeDistRequest id s).diag = s.diag := rfl
@[simp] theorem placeDistRequest_vPort (id : Nat) (s : State) : (placeDistRequest id s).vPort = s.vPort := rfl
@[simp] theorem placeDistRequest_cPort (id : Nat) (s : State) :
    (placeDistRequest id s).cPort = { s.cPort with distRequest := some id } := rfl
@[simp] theorem placeDistRequest_reader (id : Nat) (s : State) : (placeDistRequest id s).reader = s.reader := rfl
@[simp] theorem placeDistRequest_freeIndex (id : Nat) (s : State) : (placeDistRequest id s).freeIndex = s.freeIndex := rfl

/-! ## A DIAG_REPLY placed -/

@[simp] theorem placeReply_pending (d : DiagData) (s : State) : (placeReply d s).pending = s.pending := rfl
@[simp] theorem placeReply_operating (d : DiagData) (s : State) : (placeReply d s).operating = s.operating := rfl
@[simp] theorem placeReply_working (d : DiagData) (s : State) : (placeReply d s).working = s.working := rfl
@[simp] theorem placeReply_committed (d : DiagData) (s : State) : (placeReply d s).committed = s.committed := rfl
@[simp] theorem placeReply_tracks (d : DiagData) (s : State) : (placeReply d s).tracks = s.tracks := rfl
@[simp] theorem placeReply_motion (d : DiagData) (s : State) : (placeReply d s).motion = s.motion := rfl
@[simp] theorem placeReply_selector (d : DiagData) (s : State) : (placeReply d s).selector = s.selector := rfl
@[simp] theorem placeReply_vision (d : DiagData) (s : State) : (placeReply d s).vision = s.vision := rfl
@[simp] theorem placeReply_cache (d : DiagData) (s : State) : (placeReply d s).cache = s.cache := rfl
@[simp] theorem placeReply_builder (d : DiagData) (s : State) : (placeReply d s).builder = s.builder := rfl
@[simp] theorem placeReply_store (d : DiagData) (s : State) : (placeReply d s).store = s.store := rfl
@[simp] theorem placeReply_linkL (d : DiagData) (s : State) : (placeReply d s).linkL = s.linkL := rfl
@[simp] theorem placeReply_linkR (d : DiagData) (s : State) : (placeReply d s).linkR = s.linkR := rfl
@[simp] theorem placeReply_diag (d : DiagData) (s : State) : (placeReply d s).diag = s.diag := rfl
@[simp] theorem placeReply_vPort (d : DiagData) (s : State) : (placeReply d s).vPort = s.vPort := rfl
@[simp] theorem placeReply_cPort (d : DiagData) (s : State) :
    (placeReply d s).cPort = { s.cPort with diagReply := some { read := s.reader.getD [], data := d } } := rfl
@[simp] theorem placeReply_reader (d : DiagData) (s : State) : (placeReply d s).reader = s.reader := rfl
@[simp] theorem placeReply_freeIndex (d : DiagData) (s : State) : (placeReply d s).freeIndex = s.freeIndex := rfl

/-! ## A STATUS placed -/

@[simp] theorem placeStatus_pending (r : StatusReport) (s : State) : (placeStatus r s).pending = s.pending := rfl
@[simp] theorem placeStatus_operating (r : StatusReport) (s : State) : (placeStatus r s).operating = s.operating := rfl
@[simp] theorem placeStatus_working (r : StatusReport) (s : State) : (placeStatus r s).working = s.working := rfl
@[simp] theorem placeStatus_committed (r : StatusReport) (s : State) : (placeStatus r s).committed = s.committed := rfl
@[simp] theorem placeStatus_tracks (r : StatusReport) (s : State) : (placeStatus r s).tracks = s.tracks := rfl
@[simp] theorem placeStatus_motion (r : StatusReport) (s : State) : (placeStatus r s).motion = s.motion := rfl
@[simp] theorem placeStatus_selector (r : StatusReport) (s : State) : (placeStatus r s).selector = s.selector := rfl
@[simp] theorem placeStatus_vision (r : StatusReport) (s : State) : (placeStatus r s).vision = s.vision := rfl
@[simp] theorem placeStatus_cache (r : StatusReport) (s : State) : (placeStatus r s).cache = s.cache := rfl
@[simp] theorem placeStatus_builder (r : StatusReport) (s : State) : (placeStatus r s).builder = s.builder := rfl
@[simp] theorem placeStatus_store (r : StatusReport) (s : State) : (placeStatus r s).store = s.store := rfl
@[simp] theorem placeStatus_linkL (r : StatusReport) (s : State) : (placeStatus r s).linkL = s.linkL := rfl
@[simp] theorem placeStatus_linkR (r : StatusReport) (s : State) : (placeStatus r s).linkR = s.linkR := rfl
@[simp] theorem placeStatus_diag (r : StatusReport) (s : State) : (placeStatus r s).diag = s.diag := rfl
@[simp] theorem placeStatus_vPort (r : StatusReport) (s : State) : (placeStatus r s).vPort = s.vPort := rfl
@[simp] theorem placeStatus_cPort (r : StatusReport) (s : State) :
    (placeStatus r s).cPort = { s.cPort with status := some r } := rfl
@[simp] theorem placeStatus_reader (r : StatusReport) (s : State) : (placeStatus r s).reader = s.reader := rfl
@[simp] theorem placeStatus_freeIndex (r : StatusReport) (s : State) : (placeStatus r s).freeIndex = s.freeIndex := rfl

/-! ## Vision presence refreshed -/

@[simp] theorem refreshVision_pending (s : State) : (refreshVision s).pending = s.pending := rfl
@[simp] theorem refreshVision_operating (s : State) : (refreshVision s).operating = s.operating := rfl
@[simp] theorem refreshVision_working (s : State) : (refreshVision s).working = s.working := rfl
@[simp] theorem refreshVision_committed (s : State) : (refreshVision s).committed = s.committed := rfl
@[simp] theorem refreshVision_tracks (s : State) : (refreshVision s).tracks = s.tracks := rfl
@[simp] theorem refreshVision_motion (s : State) : (refreshVision s).motion = s.motion := rfl
@[simp] theorem refreshVision_selector (s : State) : (refreshVision s).selector = s.selector := rfl
@[simp] theorem refreshVision_vision (s : State) :
    (refreshVision s).vision = { present := true, timer := some 0 } := rfl
@[simp] theorem refreshVision_cache (s : State) : (refreshVision s).cache = s.cache := rfl
@[simp] theorem refreshVision_builder (s : State) : (refreshVision s).builder = s.builder := rfl
@[simp] theorem refreshVision_store (s : State) : (refreshVision s).store = s.store := rfl
@[simp] theorem refreshVision_linkL (s : State) : (refreshVision s).linkL = s.linkL := rfl
@[simp] theorem refreshVision_linkR (s : State) : (refreshVision s).linkR = s.linkR := rfl
@[simp] theorem refreshVision_diag (s : State) : (refreshVision s).diag = s.diag := rfl
@[simp] theorem refreshVision_vPort (s : State) : (refreshVision s).vPort = s.vPort := rfl
@[simp] theorem refreshVision_cPort (s : State) : (refreshVision s).cPort = s.cPort := rfl
@[simp] theorem refreshVision_reader (s : State) : (refreshVision s).reader = s.reader := rfl
@[simp] theorem refreshVision_freeIndex (s : State) : (refreshVision s).freeIndex = s.freeIndex := rfl

/-! ## Transmissions begun -/

@[simp] theorem beginTransmissions_pending (s : State) : (beginTransmissions s).pending = s.pending := rfl
@[simp] theorem beginTransmissions_operating (s : State) : (beginTransmissions s).operating = s.operating := rfl
@[simp] theorem beginTransmissions_working (s : State) : (beginTransmissions s).working = s.working := rfl
@[simp] theorem beginTransmissions_committed (s : State) : (beginTransmissions s).committed = s.committed := rfl
@[simp] theorem beginTransmissions_tracks (s : State) : (beginTransmissions s).tracks = s.tracks := rfl
@[simp] theorem beginTransmissions_motion (s : State) : (beginTransmissions s).motion = s.motion := rfl
@[simp] theorem beginTransmissions_selector (s : State) : (beginTransmissions s).selector = s.selector := rfl
@[simp] theorem beginTransmissions_vision (s : State) : (beginTransmissions s).vision = s.vision := rfl
@[simp] theorem beginTransmissions_cache (s : State) : (beginTransmissions s).cache = s.cache := rfl
@[simp] theorem beginTransmissions_builder (s : State) : (beginTransmissions s).builder = s.builder := rfl
@[simp] theorem beginTransmissions_store (s : State) : (beginTransmissions s).store = s.store := rfl
@[simp] theorem beginTransmissions_linkL (s : State) : (beginTransmissions s).linkL = s.linkL := rfl
@[simp] theorem beginTransmissions_linkR (s : State) : (beginTransmissions s).linkR = s.linkR := rfl
@[simp] theorem beginTransmissions_diag (s : State) : (beginTransmissions s).diag = s.diag := rfl
@[simp] theorem beginTransmissions_vPort (s : State) :
    (beginTransmissions s).vPort = beginVPort s.vPort := rfl
@[simp] theorem beginTransmissions_cPort (s : State) :
    (beginTransmissions s).cPort = beginCPort s.cPort := rfl
@[simp] theorem beginTransmissions_reader (s : State) :
    (beginTransmissions s).reader = if s.cPort.diagReply.isSome && (beginCPort s.cPort).diagReply.isNone then none else s.reader := rfl
@[simp] theorem beginTransmissions_freeIndex (s : State) : (beginTransmissions s).freeIndex = s.freeIndex := rfl

/-! ## A port bus-off -/

@[simp] theorem vPortOff_pending (s : State) : (vPortOff s).pending = s.pending := rfl
@[simp] theorem vPortOff_operating (s : State) : (vPortOff s).operating = s.operating := rfl
@[simp] theorem vPortOff_working (s : State) : (vPortOff s).working = s.working := rfl
@[simp] theorem vPortOff_committed (s : State) : (vPortOff s).committed = s.committed := rfl
@[simp] theorem vPortOff_tracks (s : State) : (vPortOff s).tracks = s.tracks := rfl
@[simp] theorem vPortOff_motion (s : State) : (vPortOff s).motion = s.motion := rfl
@[simp] theorem vPortOff_selector (s : State) : (vPortOff s).selector = s.selector := rfl
@[simp] theorem vPortOff_vision (s : State) : (vPortOff s).vision = s.vision := rfl
@[simp] theorem vPortOff_cache (s : State) : (vPortOff s).cache = s.cache := rfl
@[simp] theorem vPortOff_builder (s : State) : (vPortOff s).builder = s.builder := rfl
@[simp] theorem vPortOff_store (s : State) : (vPortOff s).store = s.store := rfl
@[simp] theorem vPortOff_linkL (s : State) : (vPortOff s).linkL = s.linkL := rfl
@[simp] theorem vPortOff_linkR (s : State) : (vPortOff s).linkR = s.linkR := rfl
@[simp] theorem vPortOff_diag (s : State) : (vPortOff s).diag = s.diag := rfl
@[simp] theorem vPortOff_vPort (s : State) :
    (vPortOff s).vPort = { busOff := true, litmap := none, sending := none } := rfl
@[simp] theorem vPortOff_cPort (s : State) : (vPortOff s).cPort = s.cPort := rfl
@[simp] theorem vPortOff_reader (s : State) : (vPortOff s).reader = s.reader := rfl
@[simp] theorem vPortOff_freeIndex (s : State) : (vPortOff s).freeIndex = s.freeIndex := rfl

/-! ## The C-port bus-off -/

@[simp] theorem cPortOff_pending (s : State) : (cPortOff s).pending = s.pending := rfl
@[simp] theorem cPortOff_operating (s : State) : (cPortOff s).operating = s.operating := rfl
@[simp] theorem cPortOff_working (s : State) : (cPortOff s).working = s.working := rfl
@[simp] theorem cPortOff_committed (s : State) : (cPortOff s).committed = s.committed := rfl
@[simp] theorem cPortOff_tracks (s : State) : (cPortOff s).tracks = s.tracks := rfl
@[simp] theorem cPortOff_motion (s : State) : (cPortOff s).motion = s.motion := rfl
@[simp] theorem cPortOff_selector (s : State) : (cPortOff s).selector = s.selector := rfl
@[simp] theorem cPortOff_vision (s : State) : (cPortOff s).vision = s.vision := rfl
@[simp] theorem cPortOff_cache (s : State) : (cPortOff s).cache = s.cache := rfl
@[simp] theorem cPortOff_builder (s : State) : (cPortOff s).builder = s.builder := rfl
@[simp] theorem cPortOff_store (s : State) : (cPortOff s).store = s.store := rfl
@[simp] theorem cPortOff_linkL (s : State) : (cPortOff s).linkL = s.linkL := rfl
@[simp] theorem cPortOff_linkR (s : State) : (cPortOff s).linkR = s.linkR := rfl
@[simp] theorem cPortOff_diag (s : State) : (cPortOff s).diag = s.diag := rfl
@[simp] theorem cPortOff_vPort (s : State) : (cPortOff s).vPort = s.vPort := rfl
@[simp] theorem cPortOff_cPort (s : State) :
    (cPortOff s).cPort = { busOff := true, status := none, notice := none, distRequest := none, diagReply := none, sending := none } := rfl
@[simp] theorem cPortOff_reader (s : State) :
    (cPortOff s).reader = if s.cPort.diagReply.isSome then none else s.reader := rfl
@[simp] theorem cPortOff_freeIndex (s : State) : (cPortOff s).freeIndex = s.freeIndex := rfl

/-! ## RUN entered -/

@[simp] theorem enterRun_pending (s : State) : (enterRun s).pending = s.pending := rfl
@[simp] theorem enterRun_operating (s : State) :
    (enterRun s).operating = .run := rfl
@[simp] theorem enterRun_working (s : State) : (enterRun s).working = s.working := rfl
@[simp] theorem enterRun_committed (s : State) :
    (enterRun s).committed = some s.working := rfl
@[simp] theorem enterRun_tracks (s : State) : (enterRun s).tracks = s.tracks := rfl
@[simp] theorem enterRun_motion (s : State) : (enterRun s).motion = s.motion := rfl
@[simp] theorem enterRun_selector (s : State) : (enterRun s).selector = s.selector := rfl
@[simp] theorem enterRun_vision (s : State) : (enterRun s).vision = s.vision := rfl
@[simp] theorem enterRun_cache (s : State) : (enterRun s).cache = s.cache := rfl
@[simp] theorem enterRun_builder (s : State) :
    (enterRun s).builder = { s.builder with timer := some 0, workingCopy := none } := rfl
@[simp] theorem enterRun_store (s : State) : (enterRun s).store = s.store := rfl
@[simp] theorem enterRun_linkL (s : State) : (enterRun s).linkL = s.linkL := rfl
@[simp] theorem enterRun_linkR (s : State) : (enterRun s).linkR = s.linkR := rfl
@[simp] theorem enterRun_diag (s : State) : (enterRun s).diag = s.diag := rfl
@[simp] theorem enterRun_vPort (s : State) : (enterRun s).vPort = s.vPort := rfl
@[simp] theorem enterRun_cPort (s : State) : (enterRun s).cPort = s.cPort := rfl
@[simp] theorem enterRun_reader (s : State) : (enterRun s).reader = s.reader := rfl
@[simp] theorem enterRun_freeIndex (s : State) : (enterRun s).freeIndex = s.freeIndex := rfl

/-! ## The LIMP frame installed -/

@[simp] theorem installLimp_pending (s : State) : (installLimp s).pending = s.pending := rfl
@[simp] theorem installLimp_operating (s : State) : (installLimp s).operating = s.operating := rfl
@[simp] theorem installLimp_working (s : State) : (installLimp s).working = s.working := rfl
@[simp] theorem installLimp_committed (s : State) : (installLimp s).committed = s.committed := rfl
@[simp] theorem installLimp_tracks (s : State) : (installLimp s).tracks = s.tracks := rfl
@[simp] theorem installLimp_motion (s : State) : (installLimp s).motion = s.motion := rfl
@[simp] theorem installLimp_selector (s : State) : (installLimp s).selector = s.selector := rfl
@[simp] theorem installLimp_vision (s : State) : (installLimp s).vision = s.vision := rfl
@[simp] theorem installLimp_cache (s : State) : (installLimp s).cache = s.cache := rfl
@[simp] theorem installLimp_builder (s : State) :
    (installLimp s).builder = { s.builder with phase := .idle, mirror := frameToMirror limpFrame } := rfl
@[simp] theorem installLimp_store (s : State) :
    (installLimp s).store = s.store.installLimp := rfl
@[simp] theorem installLimp_linkL (s : State) :
    (installLimp s).linkL = s.linkL.afterInstall := rfl
@[simp] theorem installLimp_linkR (s : State) :
    (installLimp s).linkR = s.linkR.afterInstall := rfl
@[simp] theorem installLimp_diag (s : State) : (installLimp s).diag = s.diag := rfl
@[simp] theorem installLimp_vPort (s : State) : (installLimp s).vPort = s.vPort := rfl
@[simp] theorem installLimp_cPort (s : State) : (installLimp s).cPort = s.cPort := rfl
@[simp] theorem installLimp_reader (s : State) : (installLimp s).reader = s.reader := rfl
@[simp] theorem installLimp_freeIndex (s : State) : (installLimp s).freeIndex = s.freeIndex := rfl

/-! ## One millisecond -/

@[simp] theorem tick_pending (s : State) :
    (tick s).pending = dueCommands s := rfl
@[simp] theorem tick_operating (s : State) : (tick s).operating = s.operating := rfl
@[simp] theorem tick_working (s : State) : (tick s).working = s.working := rfl
@[simp] theorem tick_committed (s : State) : (tick s).committed = s.committed := rfl
@[simp] theorem tick_tracks (s : State) :
    (tick s).tracks = ageTracks s := rfl
@[simp] theorem tick_selector (s : State) :
    (tick s).selector = { s.selector with flash := advanceFlash ((activeCal s).nat .flashMax) s.selector.flash } := rfl
@[simp] theorem tick_vision (s : State) :
    (tick s).vision = { s.vision with timer := advance Config.visionLimit s.vision.timer } := rfl
@[simp] theorem tick_cache (s : State) :
    (tick s).cache = { s.cache with request := s.cache.request.map advanceRequest } := rfl
@[simp] theorem tick_builder (s : State) :
    (tick s).builder = { s.builder with timer := advance ((committedCal s).nat .buildPeriod) s.builder.timer } := rfl
@[simp] theorem tick_store (s : State) : (tick s).store = s.store := rfl
@[simp] theorem tick_linkL (s : State) :
    (tick s).linkL = advanceLink s.linkL := rfl
@[simp] theorem tick_linkR (s : State) :
    (tick s).linkR = advanceLink s.linkR := rfl
@[simp] theorem tick_diag (s : State) : (tick s).diag = s.diag := rfl
@[simp] theorem tick_vPort (s : State) : (tick s).vPort = s.vPort := rfl
@[simp] theorem tick_cPort (s : State) : (tick s).cPort = s.cPort := rfl
@[simp] theorem tick_reader (s : State) : (tick s).reader = s.reader := rfl
@[simp] theorem tick_freeIndex (s : State) : (tick s).freeIndex = s.freeIndex := rfl

/-! ## A lookup that hits -/

@[simp] theorem lookupHit_pending (d sequence : Nat) (way : Bool) (s : State) : (lookupHit d sequence way s).pending = s.pending := rfl
@[simp] theorem lookupHit_operating (d sequence : Nat) (way : Bool) (s : State) : (lookupHit d sequence way s).operating = s.operating := rfl
@[simp] theorem lookupHit_working (d sequence : Nat) (way : Bool) (s : State) : (lookupHit d sequence way s).working = s.working := rfl
@[simp] theorem lookupHit_committed (d sequence : Nat) (way : Bool) (s : State) : (lookupHit d sequence way s).committed = s.committed := rfl
@[simp] theorem lookupHit_tracks (d sequence : Nat) (way : Bool) (s : State) : (lookupHit d sequence way s).tracks = s.tracks := rfl
@[simp] theorem lookupHit_motion (d sequence : Nat) (way : Bool) (s : State) : (lookupHit d sequence way s).motion = s.motion := rfl
@[simp] theorem lookupHit_selector (d sequence : Nat) (way : Bool) (s : State) : (lookupHit d sequence way s).selector = s.selector := rfl
@[simp] theorem lookupHit_vision (d sequence : Nat) (way : Bool) (s : State) : (lookupHit d sequence way s).vision = s.vision := rfl
@[simp] theorem lookupHit_builder (d sequence : Nat) (way : Bool) (s : State) :
    (lookupHit d sequence way s).builder = { s.builder with workingCopy := some (s.cache.slot d way).values } := rfl
@[simp] theorem lookupHit_store (d sequence : Nat) (way : Bool) (s : State) : (lookupHit d sequence way s).store = s.store := rfl
@[simp] theorem lookupHit_linkL (d sequence : Nat) (way : Bool) (s : State) : (lookupHit d sequence way s).linkL = s.linkL := rfl
@[simp] theorem lookupHit_linkR (d sequence : Nat) (way : Bool) (s : State) : (lookupHit d sequence way s).linkR = s.linkR := rfl
@[simp] theorem lookupHit_diag (d sequence : Nat) (way : Bool) (s : State) : (lookupHit d sequence way s).diag = s.diag := rfl
@[simp] theorem lookupHit_vPort (d sequence : Nat) (way : Bool) (s : State) : (lookupHit d sequence way s).vPort = s.vPort := rfl
@[simp] theorem lookupHit_cPort (d sequence : Nat) (way : Bool) (s : State) : (lookupHit d sequence way s).cPort = s.cPort := rfl
@[simp] theorem lookupHit_reader (d sequence : Nat) (way : Bool) (s : State) : (lookupHit d sequence way s).reader = s.reader := rfl
@[simp] theorem lookupHit_freeIndex (d sequence : Nat) (way : Bool) (s : State) : (lookupHit d sequence way s).freeIndex = s.freeIndex := rfl

/-! ## An accepted MOTION judged -/

@[simp] theorem judgeMotion_pending (r : MotionRecord) (s : State) : (judgeMotion r s).pending = s.pending := rfl
@[simp] theorem judgeMotion_operating (r : MotionRecord) (s : State) : (judgeMotion r s).operating = s.operating := rfl
@[simp] theorem judgeMotion_working (r : MotionRecord) (s : State) : (judgeMotion r s).working = s.working := rfl
@[simp] theorem judgeMotion_committed (r : MotionRecord) (s : State) : (judgeMotion r s).committed = s.committed := rfl
@[simp] theorem judgeMotion_tracks (r : MotionRecord) (s : State) : (judgeMotion r s).tracks = s.tracks := rfl
@[simp] theorem judgeMotion_motion (r : MotionRecord) (s : State) : (judgeMotion r s).motion = s.motion := rfl
@[simp] theorem judgeMotion_vision (r : MotionRecord) (s : State) : (judgeMotion r s).vision = s.vision := rfl
@[simp] theorem judgeMotion_cache (r : MotionRecord) (s : State) : (judgeMotion r s).cache = s.cache := rfl
@[simp] theorem judgeMotion_builder (r : MotionRecord) (s : State) : (judgeMotion r s).builder = s.builder := rfl
@[simp] theorem judgeMotion_store (r : MotionRecord) (s : State) : (judgeMotion r s).store = s.store := rfl
@[simp] theorem judgeMotion_linkL (r : MotionRecord) (s : State) : (judgeMotion r s).linkL = s.linkL := rfl
@[simp] theorem judgeMotion_linkR (r : MotionRecord) (s : State) : (judgeMotion r s).linkR = s.linkR := rfl
@[simp] theorem judgeMotion_diag (r : MotionRecord) (s : State) : (judgeMotion r s).diag = s.diag := rfl
@[simp] theorem judgeMotion_vPort (r : MotionRecord) (s : State) : (judgeMotion r s).vPort = s.vPort := rfl
@[simp] theorem judgeMotion_cPort (r : MotionRecord) (s : State) : (judgeMotion r s).cPort = s.cPort := rfl
@[simp] theorem judgeMotion_reader (r : MotionRecord) (s : State) : (judgeMotion r s).reader = s.reader := rfl
@[simp] theorem judgeMotion_freeIndex (r : MotionRecord) (s : State) : (judgeMotion r s).freeIndex = s.freeIndex := rfl

/-! ## A link replaced -/

@[simp] theorem setLink_left (l : LampLink) (s : State) : s.setLink .left l = { s with linkL := l } := rfl
@[simp] theorem setLink_right (l : LampLink) (s : State) : s.setLink .right l = { s with linkR := l } := rfl
@[simp] theorem link_left (s : State) : s.link .left = s.linkL := rfl
@[simp] theorem link_right (s : State) : s.link .right = s.linkR := rfl

@[simp] theorem setLink_pending (x : Side) (l : LampLink) (s : State) : (s.setLink x l).pending = s.pending := by
  cases x <;> rfl
@[simp] theorem setLink_operating (x : Side) (l : LampLink) (s : State) : (s.setLink x l).operating = s.operating := by
  cases x <;> rfl
@[simp] theorem setLink_working (x : Side) (l : LampLink) (s : State) : (s.setLink x l).working = s.working := by
  cases x <;> rfl
@[simp] theorem setLink_committed (x : Side) (l : LampLink) (s : State) : (s.setLink x l).committed = s.committed := by
  cases x <;> rfl
@[simp] theorem setLink_tracks (x : Side) (l : LampLink) (s : State) : (s.setLink x l).tracks = s.tracks := by
  cases x <;> rfl
@[simp] theorem setLink_motion (x : Side) (l : LampLink) (s : State) : (s.setLink x l).motion = s.motion := by
  cases x <;> rfl
@[simp] theorem setLink_selector (x : Side) (l : LampLink) (s : State) : (s.setLink x l).selector = s.selector := by
  cases x <;> rfl
@[simp] theorem setLink_vision (x : Side) (l : LampLink) (s : State) : (s.setLink x l).vision = s.vision := by
  cases x <;> rfl
@[simp] theorem setLink_cache (x : Side) (l : LampLink) (s : State) : (s.setLink x l).cache = s.cache := by
  cases x <;> rfl
@[simp] theorem setLink_builder (x : Side) (l : LampLink) (s : State) : (s.setLink x l).builder = s.builder := by
  cases x <;> rfl
@[simp] theorem setLink_store (x : Side) (l : LampLink) (s : State) : (s.setLink x l).store = s.store := by
  cases x <;> rfl
@[simp] theorem setLink_diag (x : Side) (l : LampLink) (s : State) : (s.setLink x l).diag = s.diag := by
  cases x <;> rfl
@[simp] theorem setLink_vPort (x : Side) (l : LampLink) (s : State) : (s.setLink x l).vPort = s.vPort := by
  cases x <;> rfl
@[simp] theorem setLink_cPort (x : Side) (l : LampLink) (s : State) : (s.setLink x l).cPort = s.cPort := by
  cases x <;> rfl
@[simp] theorem setLink_reader (x : Side) (l : LampLink) (s : State) : (s.setLink x l).reader = s.reader := by
  cases x <;> rfl
@[simp] theorem setLink_freeIndex (x : Side) (l : LampLink) (s : State) : (s.setLink x l).freeIndex = s.freeIndex := by
  cases x <;> rfl

@[simp] theorem link_setLink (x : Side) (l : LampLink) (s : State) : (s.setLink x l).link x = l := by
  cases x <;> rfl
theorem link_setLink_ne {x y : Side} (h : y ≠ x) (l : LampLink) (s : State) : (s.setLink x l).link y = s.link y := by
  cases x <;> cases y <;> first | rfl | exact absurd rfl h

/-! ## Updates of a block -/

@[simp] theorem CalSet.get_put_self (c : CalSet) (p : Param) (v : Int) : (c.put p v).get p = v := by
  simp [CalSet.get, CalSet.put, Vector.get_eq_getElem]
theorem CalSet.get_put_ne {p q : Param} (h : q.index ≠ p.index) (c : CalSet) (v : Int) : (c.put p v).get q = c.get q := by
  have h' : p.index.val ≠ q.index.val := fun e => h (Fin.ext e.symm)
  simp [CalSet.get, CalSet.put, Vector.get_eq_getElem, h']

@[simp] theorem afterInstall_transfer (l : LampLink) : l.afterInstall.transfer = none := rfl
@[simp] theorem afterInstall_applied (l : LampLink) : l.afterInstall.applied = none := rfl
@[simp] theorem afterInstall_waiting (l : LampLink) : l.afterInstall.waiting = none := rfl
@[simp] theorem afterInstall_state (l : LampLink) : l.afterInstall.state = l.state := rfl
@[simp] theorem afterInstall_dead (l : LampLink) : l.afterInstall.dead = l.dead := rfl
@[simp] theorem afterInstall_wire (l : LampLink) : l.afterInstall.wire = l.wire := rfl

@[simp] theorem slot_setSlot_self (st : FrameStore) (i : Fin 6) (sl : FrameSlot) : (st.setSlot i sl).slot i = sl := by
  simp [FrameStore.slot, FrameStore.setSlot, Vector.get_eq_getElem]
theorem slot_setSlot_ne {i j : Fin 6} (h : j ≠ i) (st : FrameStore) (sl : FrameSlot) : (st.setSlot i sl).slot j = st.slot j := by
  have h' : i.val ≠ j.val := fun e => h (Fin.ext e.symm)
  simp [FrameStore.slot, FrameStore.setSlot, Vector.get_eq_getElem, h']
@[simp] theorem slot_mapSlots (st : FrameStore) (f : FrameSlot → FrameSlot) (i : Fin 6) :
    (st.mapSlots f).slot i = f (st.slot i) := by
  simp [FrameStore.slot, FrameStore.mapSlots, Vector.get_eq_getElem]
@[simp] theorem installLimp_busy (st : FrameStore) : st.installLimp.busy = none := rfl
@[simp] theorem installLimp_waitCommit (st : FrameStore) : st.installLimp.waitCommit = none := rfl
@[simp] theorem installLimp_waitLinkL (st : FrameStore) : st.installLimp.waitLinkL = none := rfl
@[simp] theorem installLimp_waitLinkR (st : FrameStore) : st.installLimp.waitLinkR = none := rfl
@[simp] theorem installLimp_lastGranted (st : FrameStore) : st.installLimp.lastGranted = st.lastGranted := rfl
@[simp] theorem slot_installLimp (st : FrameStore) (i : Fin 6) :
    st.installLimp.slot i = if i = 0 then limpSlot else freeSlot (st.slot i).memory := by
  simp [FrameStore.slot, FrameStore.installLimp, Vector.get_eq_getElem]

@[simp] theorem slots_get_set_self (c : DistCache) (i : Fin 8) (sl : CacheSlot) : (c.slots.set i sl).get i = sl := by
  simp [Vector.get_eq_getElem]
theorem slots_get_set_ne {i j : Fin 8} (h : j ≠ i) (c : DistCache) (sl : CacheSlot) :
    (c.slots.set i sl).get j = c.slots.get j := by
  have h' : i.val ≠ j.val := fun e => h (Fin.ext e.symm)
  simp [Vector.get_eq_getElem, h']
@[simp] theorem get_mapSlots (c : DistCache) (f : Bool → CacheSlot → CacheSlot) (i : Fin 8) :
    (c.mapSlots f).slots.get i = f (wayOfIndex i) (c.slots.get i) := by
  simp [DistCache.mapSlots, Vector.get_eq_getElem]
@[simp] theorem wayOfIndex_cacheIndex (d : Nat) (w : Bool) : wayOfIndex (cacheIndex d w) = w := by
  cases w <;> simp [wayOfIndex, cacheIndex]

end Sys2Proof.Machine
end

