-- ==== Sys2Proof/Laws/Ops.lean ====
section
/-! SUPPORT. One lemma per shared operation: what it can do, and what it leaves. A lemma named `<operation>_frame` lists every field of
the state that the operation leaves as it was. -/

namespace Sys2Proof.Machine

/-! ## Notices and faults -/

/-- A kind in a set: its bit. -/
theorem NoticeKind.or_bit_of_mem (k : NoticeKind) (set : BitVec 8) (h : set.getLsbD k.position = true) :
    set ||| k.bit = set := by
  ext i hi
  by_cases e : i = k.position
  · subst e; simp [← BitVec.getLsbD_eq_getElem, h]
  · have : k.bit.getLsbD i = false := by
      cases k <;> interval_cases i <;> first | rfl | exact absurd rfl e
    simp [← BitVec.getLsbD_eq_getElem, this]

/-- All that a raised notice does: the pending set gains the kind, and a NOTICE is made or merged when it entered unmasked. -/
theorem raiseNotice_eq (k : NoticeKind) (s : State) :
    raiseNotice k s =
      { s with
        diag := { s.diag with notices := s.diag.notices ||| k.bit }
        cPort :=
          if s.diag.isPending k || s.diag.isMasked k then s.cPort
          else { s.cPort with
                 notice := some (s.cPort.notice.getD 0 ||| ((s.diag.notices ||| k.bit) &&& ~~~s.diag.mask)) } } := by
  unfold raiseNotice
  by_cases hp : s.diag.isPending k = true
  · simp [hp, NoticeKind.or_bit_of_mem k s.diag.notices hp]
  · by_cases hm : s.diag.isMasked k = true <;> simp [hp, hm, makeNotice, DiagUnit.unmaskedPending]

/-- A fault taken with the record filled. -/
theorem raiseFault_filled (f : FaultReport) (s : State) (c : CaptureRecord) (h : s.diag.capture = some c) :
    raiseFault f s =
      { s with diag := { s.diag with
          summary := s.diag.summary ||| f.kind.bit, capture := some { c with further := true } } } := by
  simp [raiseFault, h]

/-- A fault taken with the record empty. -/
theorem raiseFault_empty (f : FaultReport) (s : State) (h : s.diag.capture = none) :
    raiseFault f s =
      raiseNotice .faultCaptured
        { s with diag := { s.diag with
            summary := s.diag.summary ||| f.kind.bit, capture := some { report := f, further := false } } } := by
  simp [raiseFault, h]

/-- After a fault the record is filled: with the fault if it was empty, else with what it held. -/
theorem raiseFault_capture (f : FaultReport) (s : State) :
    (raiseFault f s).diag.capture =
      match s.diag.capture with
      | none => some { report := f, further := false }
      | some c => some { c with further := true } := by
  cases h : s.diag.capture with
  | none => simp [raiseFault_empty f s h, raiseNotice_eq]
  | some c => simp [raiseFault_filled f s c h]

@[simp] theorem raiseNotice_frame (k : NoticeKind) (s : State) :
    (raiseNotice k s).pending = s.pending ∧ (raiseNotice k s).operating = s.operating ∧
      (raiseNotice k s).working = s.working ∧ (raiseNotice k s).committed = s.committed ∧
      (raiseNotice k s).tracks = s.tracks ∧ (raiseNotice k s).motion = s.motion ∧
      (raiseNotice k s).selector = s.selector ∧ (raiseNotice k s).vision = s.vision ∧
      (raiseNotice k s).cache = s.cache ∧ (raiseNotice k s).builder = s.builder ∧
      (raiseNotice k s).store = s.store ∧ (raiseNotice k s).linkL = s.linkL ∧
      (raiseNotice k s).linkR = s.linkR ∧ (raiseNotice k s).vPort = s.vPort ∧
      (raiseNotice k s).reader = s.reader ∧ (raiseNotice k s).freeIndex = s.freeIndex := by
  simp [raiseNotice_eq]

@[simp] theorem raiseFault_frame (f : FaultReport) (s : State) :
    (raiseFault f s).pending = s.pending ∧ (raiseFault f s).operating = s.operating ∧
      (raiseFault f s).working = s.working ∧ (raiseFault f s).committed = s.committed ∧
      (raiseFault f s).tracks = s.tracks ∧ (raiseFault f s).motion = s.motion ∧
      (raiseFault f s).selector = s.selector ∧ (raiseFault f s).vision = s.vision ∧
      (raiseFault f s).cache = s.cache ∧ (raiseFault f s).builder = s.builder ∧
      (raiseFault f s).store = s.store ∧ (raiseFault f s).linkL = s.linkL ∧
      (raiseFault f s).linkR = s.linkR ∧ (raiseFault f s).vPort = s.vPort ∧
      (raiseFault f s).reader = s.reader ∧ (raiseFault f s).freeIndex = s.freeIndex := by
  cases h : s.diag.capture with
  | none => simp [raiseFault_empty f s h]
  | some c => simp [raiseFault_filled f s c h]

/-! ## Ports -/

/-- A frame received on a bus-off C-port. -/
theorem receiveC_off (identifier : Nat) (ok : Bool) (s : State) (handle : State → Answer) (h : s.cPort.busOff = true) :
    receiveC identifier ok s handle = .next s := by
  simp [receiveC, h]

/-- A frame accepted on the C-port. -/
theorem receiveC_ok (identifier : Nat) (s : State) (handle : State → Answer) (h : s.cPort.busOff = false) :
    receiveC identifier true s handle = handle s := by
  simp [receiveC, h]

/-- A frame of a wrong length on the C-port. -/
theorem receiveC_wrong (identifier : Nat) (s : State) (handle : State → Answer) (h : s.cPort.busOff = false) :
    receiveC identifier false s handle = done (raiseFault (badMessage identifier 0) s) := by
  simp [receiveC, h]

/-- A frame received on a bus-off V-port. -/
theorem receiveV_off (identifier : Nat) (ok : Bool) (s : State) (handle : State → Answer) (h : s.vPort.busOff = true) :
    receiveV identifier ok s handle = .next s := by
  simp [receiveV, h]

/-- A frame accepted on the V-port: vision presence is refreshed before the hand-off. -/
theorem receiveV_ok (identifier : Nat) (s : State) (handle : State → Answer) (h : s.vPort.busOff = false) :
    receiveV identifier true s handle = handle (refreshVision s) := by
  simp [receiveV, h]

/-- A frame of a wrong length on the V-port. -/
theorem receiveV_wrong (identifier : Nat) (s : State) (handle : State → Answer) (h : s.vPort.busOff = false) :
    receiveV identifier false s handle = done (raiseFault (badMessage identifier 0) s) := by
  simp [receiveV, h]

/-- A C-port command answers what it hands to its owner, a fault for its length, or nothing. -/
theorem receiveC_cases (identifier : Nat) (ok : Bool) (s : State) (handle : State → Answer) :
    receiveC identifier ok s handle = .next s ∨
      receiveC identifier ok s handle = done (raiseFault (badMessage identifier 0) s) ∨
      (s.cPort.busOff = false ∧ ok = true ∧ receiveC identifier ok s handle = handle s) := by
  cases h : s.cPort.busOff <;> cases ok <;> simp [receiveC, h]

/-- As `receiveC_cases`, for the V-port. -/
theorem receiveV_cases (identifier : Nat) (ok : Bool) (s : State) (handle : State → Answer) :
    receiveV identifier ok s handle = .next s ∨
      receiveV identifier ok s handle = done (raiseFault (badMessage identifier 0) s) ∨
      (s.vPort.busOff = false ∧ ok = true ∧ receiveV identifier ok s handle = handle (refreshVision s)) := by
  cases h : s.vPort.busOff <;> cases ok <;> simp [receiveV, h]

@[simp] theorem withdrawDistRequest_frame (id : Nat) (s : State) :
    (withdrawDistRequest id s).pending = s.pending ∧ (withdrawDistRequest id s).operating = s.operating ∧
      (withdrawDistRequest id s).working = s.working ∧ (withdrawDistRequest id s).committed = s.committed ∧
      (withdrawDistRequest id s).tracks = s.tracks ∧ (withdrawDistRequest id s).motion = s.motion ∧
      (withdrawDistRequest id s).selector = s.selector ∧ (withdrawDistRequest id s).vision = s.vision ∧
      (withdrawDistRequest id s).cache = s.cache ∧ (withdrawDistRequest id s).builder = s.builder ∧
      (withdrawDistRequest id s).store = s.store ∧ (withdrawDistRequest id s).linkL = s.linkL ∧
      (withdrawDistRequest id s).linkR = s.linkR ∧ (withdrawDistRequest id s).diag = s.diag ∧
      (withdrawDistRequest id s).vPort = s.vPort ∧ (withdrawDistRequest id s).reader = s.reader ∧
      (withdrawDistRequest id s).freeIndex = s.freeIndex := by
  unfold withdrawDistRequest; split <;> simp

/-! ## The arbiter -/

/-- What a grant of a request that is no diagnostic read does. -/
theorem grant_access (r : Requester) (a : PortAccess) (s : State) (h : ∀ i x k, a ≠ .diagRead i x k) :
    grant r a s =
      { s with store := { s.store.setWaiting r none with
          lastGranted := r, busy := some { requester := r, access := a, wanted := true, found := none } } } := by
  cases a <;> first | rfl | exact absurd rfl (h _ _ _)

@[simp] theorem setWaiting_slots (st : FrameStore) (r : Requester) (a : Option PortAccess) :
    (st.setWaiting r a).slots = st.slots := by
  cases r <;> rfl

@[simp] theorem setWaiting_busy (st : FrameStore) (r : Requester) (a : Option PortAccess) :
    (st.setWaiting r a).busy = st.busy := by
  cases r <;> rfl

@[simp] theorem waiting_setWaiting (st : FrameStore) (r : Requester) (a : Option PortAccess) :
    (st.setWaiting r a).waiting r = a := by
  cases r <;> rfl

theorem waiting_setWaiting_ne {r q : Requester} (h : q ≠ r) (st : FrameStore) (a : Option PortAccess) :
    (st.setWaiting r a).waiting q = st.waiting q := by
  cases r <;> cases q <;> first | rfl | exact absurd rfl h

/-- The arbiter's order names every requester. -/
theorem mem_cycleAfter (last r : Requester) : r ∈ cycleAfter last := by
  cases last <;> cases r <;> decide

/-- A grant goes to a requester that waits. -/
theorem nextGrant_waiting (st : FrameStore) (r : Requester) (a : PortAccess) (h : st.nextGrant = some (r, a)) :
    st.waiting r = some a := by
  obtain ⟨q, -, hq⟩ := List.exists_of_findSome?_eq_some h
  cases hw : st.waiting q with
  | none => simp [hw] at hq
  | some b =>
    simp only [hw, Option.map_some, Option.some.injEq, Prod.mk.injEq] at hq
    obtain ⟨rfl, rfl⟩ := hq
    exact hw

/-- No grant is due exactly when nobody waits. -/
theorem nextGrant_eq_none (st : FrameStore) : st.nextGrant = none ↔ ∀ r, st.waiting r = none := by
  unfold FrameStore.nextGrant
  rw [List.findSome?_eq_none_iff]
  exact ⟨fun h r => by simpa using h r (mem_cycleAfter _ r), fun h r _ => by simp [h r]⟩

/-- What the arbiter does at a port under way, or with nobody waiting: nothing. -/
theorem grantNext_busy (s : State) (h : s.store.busy.isSome = true) : grantNext s = s := by
  simp [grantNext, h]

theorem grantNext_none (s : State) (h : s.store.nextGrant = none) : grantNext s = s := by
  simp [grantNext, h]

theorem grantNext_some (s : State) (r : Requester) (a : PortAccess) (hb : s.store.busy = none)
    (h : s.store.nextGrant = some (r, a)) : grantNext s = grant r a s := by
  simp [grantNext, hb, h]

/-- The next grant is that of the first requester in the cycle after the last-granted one that waits (R132). -/
theorem nextGrant_of_cycle (st : FrameStore) (earlier later : List Requester) (r : Requester) (a : PortAccess)
    (hc : cycleAfter st.lastGranted = earlier ++ r :: later) (he : ∀ q ∈ earlier, st.waiting q = none)
    (hr : st.waiting r = some a) : st.nextGrant = some (r, a) := by
  have h : earlier.findSome? (fun r => (st.waiting r).map fun a => (r, a)) = none := by simpa using he
  unfold FrameStore.nextGrant
  rw [hc, List.findSome?_append, h]
  simp [hr]

/-- A grant of any access but a diagnostic read makes the port busy. -/
theorem grant_busy (r : Requester) (a : PortAccess) (s : State) (h : ∀ i x k, a ≠ .diagRead i x k) :
    (grant r a s).store.busy.isSome = true := by
  cases a <;> first | rfl | exact absurd rfl (h _ _ _)

/-- Without a diagnostic read waiting, the arbiter makes at most one grant. -/
theorem arbitrate_once (s : State) (h : ∀ r a, s.store.waiting r = some a → ∀ i x k, a ≠ .diagRead i x k) :
    arbitrate s = grantNext s := by
  unfold arbitrate
  by_cases hb : s.store.busy.isSome = true
  · rw [grantNext_busy s hb, grantNext_busy s hb]
  · cases hn : s.store.nextGrant with
    | none => rw [grantNext_none s hn, grantNext_none s hn]
    | some p =>
      have hg : grantNext s = grant p.1 p.2 s := by simp [grantNext, hn, hb]
      rw [hg]
      exact grantNext_busy _ (grant_busy _ _ _ (h _ _ (nextGrant_waiting _ _ _ hn)))

@[simp] theorem grant_frame (r : Requester) (a : PortAccess) (s : State) :
    (grant r a s).pending = s.pending ∧ (grant r a s).operating = s.operating ∧
      (grant r a s).working = s.working ∧ (grant r a s).committed = s.committed ∧
      (grant r a s).tracks = s.tracks ∧ (grant r a s).motion = s.motion ∧
      (grant r a s).selector = s.selector ∧ (grant r a s).vision = s.vision ∧
      (grant r a s).cache = s.cache ∧ (grant r a s).builder = s.builder ∧
      (grant r a s).linkL = s.linkL ∧ (grant r a s).linkR = s.linkR ∧
      (grant r a s).diag = s.diag ∧ (grant r a s).vPort = s.vPort ∧
      (grant r a s).reader = s.reader ∧ (grant r a s).freeIndex = s.freeIndex := by
  cases a <;> simp only [grant] <;> try (split <;> simp)
  all_goals simp

@[simp] theorem grantNext_frame (s : State) :
    (grantNext s).pending = s.pending ∧ (grantNext s).operating = s.operating ∧
      (grantNext s).working = s.working ∧ (grantNext s).committed = s.committed ∧
      (grantNext s).tracks = s.tracks ∧ (grantNext s).motion = s.motion ∧
      (grantNext s).selector = s.selector ∧ (grantNext s).vision = s.vision ∧
      (grantNext s).cache = s.cache ∧ (grantNext s).builder = s.builder ∧
      (grantNext s).linkL = s.linkL ∧ (grantNext s).linkR = s.linkR ∧
      (grantNext s).diag = s.diag ∧ (grantNext s).vPort = s.vPort ∧
      (grantNext s).reader = s.reader ∧ (grantNext s).freeIndex = s.freeIndex := by
  unfold grantNext; split
  · simp
  · split <;> simp

@[simp] theorem arbitrate_frame (s : State) :
    (arbitrate s).pending = s.pending ∧ (arbitrate s).operating = s.operating ∧
      (arbitrate s).working = s.working ∧ (arbitrate s).committed = s.committed ∧
      (arbitrate s).tracks = s.tracks ∧ (arbitrate s).motion = s.motion ∧
      (arbitrate s).selector = s.selector ∧ (arbitrate s).vision = s.vision ∧
      (arbitrate s).cache = s.cache ∧ (arbitrate s).builder = s.builder ∧
      (arbitrate s).linkL = s.linkL ∧ (arbitrate s).linkR = s.linkR ∧
      (arbitrate s).diag = s.diag ∧ (arbitrate s).vPort = s.vPort ∧
      (arbitrate s).reader = s.reader ∧ (arbitrate s).freeIndex = s.freeIndex := by
  simp [arbitrate]

@[simp] theorem requestPort_frame (r : Requester) (a : PortAccess) (s : State) :
    (requestPort r a s).pending = s.pending ∧ (requestPort r a s).operating = s.operating ∧
      (requestPort r a s).working = s.working ∧ (requestPort r a s).committed = s.committed ∧
      (requestPort r a s).tracks = s.tracks ∧ (requestPort r a s).motion = s.motion ∧
      (requestPort r a s).selector = s.selector ∧ (requestPort r a s).vision = s.vision ∧
      (requestPort r a s).cache = s.cache ∧ (requestPort r a s).builder = s.builder ∧
      (requestPort r a s).linkL = s.linkL ∧ (requestPort r a s).linkR = s.linkR ∧
      (requestPort r a s).diag = s.diag ∧ (requestPort r a s).vPort = s.vPort ∧
      (requestPort r a s).reader = s.reader ∧ (requestPort r a s).freeIndex = s.freeIndex := by
  simp [requestPort]

@[simp] theorem releasePort_frame (s : State) :
    (releasePort s).pending = s.pending ∧ (releasePort s).operating = s.operating ∧
      (releasePort s).working = s.working ∧ (releasePort s).committed = s.committed ∧
      (releasePort s).tracks = s.tracks ∧ (releasePort s).motion = s.motion ∧
      (releasePort s).selector = s.selector ∧ (releasePort s).vision = s.vision ∧
      (releasePort s).cache = s.cache ∧ (releasePort s).builder = s.builder ∧
      (releasePort s).linkL = s.linkL ∧ (releasePort s).linkR = s.linkR ∧
      (releasePort s).diag = s.diag ∧ (releasePort s).vPort = s.vPort ∧
      (releasePort s).reader = s.reader ∧ (releasePort s).freeIndex = s.freeIndex := by
  simp [releasePort]

/-! No arbitration changes the slot table, the frame memory, or anything of the C-port but its DIAG_REPLY. -/

@[simp] theorem grant_slots (r : Requester) (a : PortAccess) (s : State) : (grant r a s).store.slots = s.store.slots := by
  cases a <;> simp only [grant] <;> try (split <;> simp)
  all_goals simp

@[simp] theorem grantNext_slots (s : State) : (grantNext s).store.slots = s.store.slots := by
  unfold grantNext; split
  · rfl
  · split <;> simp

@[simp] theorem arbitrate_slots (s : State) : (arbitrate s).store.slots = s.store.slots := by
  simp [arbitrate]

@[simp] theorem requestPort_slots (r : Requester) (a : PortAccess) (s : State) :
    (requestPort r a s).store.slots = s.store.slots := by
  simp [requestPort]

@[simp] theorem releasePort_slots (s : State) : (releasePort s).store.slots = s.store.slots := by
  simp [releasePort]

theorem grant_cPort (r : Requester) (a : PortAccess) (s : State) :
    (grant r a s).cPort = { s.cPort with diagReply := (grant r a s).cPort.diagReply } := by
  cases a <;> simp only [grant] <;> try (split <;> simp)

theorem grantNext_cPort (s : State) :
    (grantNext s).cPort = { s.cPort with diagReply := (grantNext s).cPort.diagReply } := by
  unfold grantNext; split
  · rfl
  · split
    · rfl
    · exact grant_cPort _ _ _

theorem arbitrate_cPort (s : State) :
    (arbitrate s).cPort = { s.cPort with diagReply := (arbitrate s).cPort.diagReply } := by
  have h1 := grantNext_cPort s
  have h2 := grantNext_cPort (grantNext s)
  rw [h1] at h2
  exact h2

/-! ## Links -/

/-- No step code names COMPARE (R148). -/
theorem stepOfCode_ne_compare (code : Nat) : stepOfCode code ≠ some .compare := by
  unfold stepOfCode
  split <;> simp

@[simp] theorem sendOnLink_frame (x : Side) (bytes : List Byte) (s : State) :
    (sendOnLink x bytes s).pending = s.pending ∧ (sendOnLink x bytes s).operating = s.operating ∧
      (sendOnLink x bytes s).working = s.working ∧ (sendOnLink x bytes s).committed = s.committed ∧
      (sendOnLink x bytes s).tracks = s.tracks ∧ (sendOnLink x bytes s).motion = s.motion ∧
      (sendOnLink x bytes s).selector = s.selector ∧ (sendOnLink x bytes s).vision = s.vision ∧
      (sendOnLink x bytes s).cache = s.cache ∧ (sendOnLink x bytes s).builder = s.builder ∧
      (sendOnLink x bytes s).store = s.store ∧ (sendOnLink x bytes s).diag = s.diag ∧
      (sendOnLink x bytes s).vPort = s.vPort ∧ (sendOnLink x bytes s).cPort = s.cPort ∧
      (sendOnLink x bytes s).reader = s.reader ∧ (sendOnLink x bytes s).freeIndex = s.freeIndex := by
  simp [sendOnLink]

@[simp] theorem dropAttempt_frame (x : Side) (s : State) :
    (dropAttempt x s).pending = s.pending ∧ (dropAttempt x s).operating = s.operating ∧
      (dropAttempt x s).working = s.working ∧ (dropAttempt x s).committed = s.committed ∧
      (dropAttempt x s).tracks = s.tracks ∧ (dropAttempt x s).motion = s.motion ∧
      (dropAttempt x s).selector = s.selector ∧ (dropAttempt x s).vision = s.vision ∧
      (dropAttempt x s).cache = s.cache ∧ (dropAttempt x s).builder = s.builder ∧
      (dropAttempt x s).diag = s.diag ∧ (dropAttempt x s).vPort = s.vPort ∧
      (dropAttempt x s).cPort = s.cPort ∧ (dropAttempt x s).reader = s.reader ∧
      (dropAttempt x s).freeIndex = s.freeIndex := by
  simp [dropAttempt]

@[simp] theorem beginAttempt_frame (x : Side) (tr : Transfer) (s : State) :
    (beginAttempt x tr s).pending = s.pending ∧ (beginAttempt x tr s).operating = s.operating ∧
      (beginAttempt x tr s).working = s.working ∧ (beginAttempt x tr s).committed = s.committed ∧
      (beginAttempt x tr s).tracks = s.tracks ∧ (beginAttempt x tr s).motion = s.motion ∧
      (beginAttempt x tr s).selector = s.selector ∧ (beginAttempt x tr s).vision = s.vision ∧
      (beginAttempt x tr s).cache = s.cache ∧ (beginAttempt x tr s).builder = s.builder ∧
      (beginAttempt x tr s).diag = s.diag ∧ (beginAttempt x tr s).vPort = s.vPort ∧
      (beginAttempt x tr s).reader = s.reader ∧ (beginAttempt x tr s).freeIndex = s.freeIndex := by
  unfold beginAttempt; (split <;> simp)

@[simp] theorem abandonTransfer_frame (x : Side) (s : State) :
    (abandonTransfer x s).pending = s.pending ∧ (abandonTransfer x s).operating = s.operating ∧
      (abandonTransfer x s).working = s.working ∧ (abandonTransfer x s).committed = s.committed ∧
      (abandonTransfer x s).tracks = s.tracks ∧ (abandonTransfer x s).motion = s.motion ∧
      (abandonTransfer x s).selector = s.selector ∧ (abandonTransfer x s).vision = s.vision ∧
      (abandonTransfer x s).cache = s.cache ∧ (abandonTransfer x s).builder = s.builder ∧
      (abandonTransfer x s).diag = s.diag ∧ (abandonTransfer x s).vPort = s.vPort ∧
      (abandonTransfer x s).cPort = s.cPort ∧ (abandonTransfer x s).reader = s.reader ∧
      (abandonTransfer x s).freeIndex = s.freeIndex := by
  simp [abandonTransfer]

@[simp] theorem completeTransfer_frame (x : Side) (tr : Transfer) (s : State) :
    (completeTransfer x tr s).pending = s.pending ∧ (completeTransfer x tr s).operating = s.operating ∧
      (completeTransfer x tr s).working = s.working ∧ (completeTransfer x tr s).committed = s.committed ∧
      (completeTransfer x tr s).tracks = s.tracks ∧ (completeTransfer x tr s).motion = s.motion ∧
      (completeTransfer x tr s).selector = s.selector ∧ (completeTransfer x tr s).vision = s.vision ∧
      (completeTransfer x tr s).cache = s.cache ∧ (completeTransfer x tr s).builder = s.builder ∧
      (completeTransfer x tr s).diag = s.diag ∧ (completeTransfer x tr s).vPort = s.vPort ∧
      (completeTransfer x tr s).cPort = s.cPort ∧ (completeTransfer x tr s).reader = s.reader ∧
      (completeTransfer x tr s).freeIndex = s.freeIndex := by
  simp [completeTransfer]

@[simp] theorem failTransfer_frame (x : Side) (tr : Transfer) (s : State) :
    (failTransfer x tr s).pending = s.pending ∧ (failTransfer x tr s).operating = s.operating ∧
      (failTransfer x tr s).working = s.working ∧ (failTransfer x tr s).committed = s.committed ∧
      (failTransfer x tr s).tracks = s.tracks ∧ (failTransfer x tr s).motion = s.motion ∧
      (failTransfer x tr s).selector = s.selector ∧ (failTransfer x tr s).vision = s.vision ∧
      (failTransfer x tr s).cache = s.cache ∧ (failTransfer x tr s).builder = s.builder ∧
      (failTransfer x tr s).vPort = s.vPort ∧ (failTransfer x tr s).reader = s.reader ∧
      (failTransfer x tr s).freeIndex = s.freeIndex := by
  simp [failTransfer]

@[simp] theorem demandResend_frame (x : Side) (tr : Transfer) (s : State) :
    (demandResend x tr s).pending = s.pending ∧ (demandResend x tr s).operating = s.operating ∧
      (demandResend x tr s).working = s.working ∧ (demandResend x tr s).committed = s.committed ∧
      (demandResend x tr s).tracks = s.tracks ∧ (demandResend x tr s).motion = s.motion ∧
      (demandResend x tr s).selector = s.selector ∧ (demandResend x tr s).vision = s.vision ∧
      (demandResend x tr s).cache = s.cache ∧ (demandResend x tr s).builder = s.builder ∧
      (demandResend x tr s).vPort = s.vPort ∧ (demandResend x tr s).reader = s.reader ∧
      (demandResend x tr s).freeIndex = s.freeIndex := by
  unfold demandResend; split <;> simp

@[simp] theorem startTransfer_frame (x : Side) (n : Fin 6) (seq : Nat) (full absent : Bool) (s : State) :
    (startTransfer x n seq full absent s).pending = s.pending ∧
      (startTransfer x n seq full absent s).operating = s.operating ∧
      (startTransfer x n seq full absent s).working = s.working ∧
      (startTransfer x n seq full absent s).committed = s.committed ∧
      (startTransfer x n seq full absent s).tracks = s.tracks ∧
      (startTransfer x n seq full absent s).motion = s.motion ∧
      (startTransfer x n seq full absent s).selector = s.selector ∧
      (startTransfer x n seq full absent s).vision = s.vision ∧
      (startTransfer x n seq full absent s).cache = s.cache ∧
      (startTransfer x n seq full absent s).builder = s.builder ∧
      (startTransfer x n seq full absent s).diag = s.diag ∧
      (startTransfer x n seq full absent s).vPort = s.vPort ∧
      (startTransfer x n seq full absent s).reader = s.reader ∧
      (startTransfer x n seq full absent s).freeIndex = s.freeIndex := by
  simp only [startTransfer]; split
  · simp
  · split <;> simp

@[simp] theorem takeAck_frame (x : Side) (tr : Transfer) (s : State) :
    (takeAck x tr s).pending = s.pending ∧ (takeAck x tr s).operating = s.operating ∧
      (takeAck x tr s).working = s.working ∧ (takeAck x tr s).committed = s.committed ∧
      (takeAck x tr s).tracks = s.tracks ∧ (takeAck x tr s).motion = s.motion ∧
      (takeAck x tr s).selector = s.selector ∧ (takeAck x tr s).vision = s.vision ∧
      (takeAck x tr s).cache = s.cache ∧ (takeAck x tr s).builder = s.builder ∧
      (takeAck x tr s).diag = s.diag ∧ (takeAck x tr s).vPort = s.vPort ∧
      (takeAck x tr s).reader = s.reader ∧ (takeAck x tr s).freeIndex = s.freeIndex := by
  unfold takeAck; split <;> simp

@[simp] theorem afterCompare_frame (x : Side) (a b : Fin 6) (tr : Transfer) (s : State) (k : Fin 5) :
    (afterCompare x a b tr s k).pending = s.pending ∧ (afterCompare x a b tr s k).operating = s.operating ∧
      (afterCompare x a b tr s k).working = s.working ∧ (afterCompare x a b tr s k).committed = s.committed ∧
      (afterCompare x a b tr s k).tracks = s.tracks ∧ (afterCompare x a b tr s k).motion = s.motion ∧
      (afterCompare x a b tr s k).selector = s.selector ∧ (afterCompare x a b tr s k).vision = s.vision ∧
      (afterCompare x a b tr s k).cache = s.cache ∧ (afterCompare x a b tr s k).builder = s.builder ∧
      (afterCompare x a b tr s k).diag = s.diag ∧ (afterCompare x a b tr s k).vPort = s.vPort ∧
      (afterCompare x a b tr s k).reader = s.reader ∧ (afterCompare x a b tr s k).freeIndex = s.freeIndex := by
  unfold afterCompare; split <;> simp

@[simp] theorem checkDeadLimit_frame (x : Side) (limit : Nat) (s : State) :
    (checkDeadLimit x limit s).pending = s.pending ∧ (checkDeadLimit x limit s).operating = s.operating ∧
      (checkDeadLimit x limit s).working = s.working ∧ (checkDeadLimit x limit s).committed = s.committed ∧
      (checkDeadLimit x limit s).tracks = s.tracks ∧ (checkDeadLimit x limit s).motion = s.motion ∧
      (checkDeadLimit x limit s).selector = s.selector ∧ (checkDeadLimit x limit s).vision = s.vision ∧
      (checkDeadLimit x limit s).cache = s.cache ∧ (checkDeadLimit x limit s).builder = s.builder ∧
      (checkDeadLimit x limit s).store = s.store ∧ (checkDeadLimit x limit s).vPort = s.vPort ∧
      (checkDeadLimit x limit s).reader = s.reader ∧ (checkDeadLimit x limit s).freeIndex = s.freeIndex := by
  simp only [checkDeadLimit]; split
  · split <;> simp
  · simp

@[simp] theorem takeLampState_frame (x : Side) (temp : Int) (ok : Bool) (entries : List Nat) (s : State) :
    (takeLampState x temp ok entries s).pending = s.pending ∧
      (takeLampState x temp ok entries s).operating = s.operating ∧
      (takeLampState x temp ok entries s).working = s.working ∧
      (takeLampState x temp ok entries s).committed = s.committed ∧
      (takeLampState x temp ok entries s).tracks = s.tracks ∧
      (takeLampState x temp ok entries s).motion = s.motion ∧
      (takeLampState x temp ok entries s).selector = s.selector ∧
      (takeLampState x temp ok entries s).vision = s.vision ∧
      (takeLampState x temp ok entries s).cache = s.cache ∧
      (takeLampState x temp ok entries s).builder = s.builder ∧
      (takeLampState x temp ok entries s).store = s.store ∧
      (takeLampState x temp ok entries s).vPort = s.vPort ∧
      (takeLampState x temp ok entries s).reader = s.reader ∧
      (takeLampState x temp ok entries s).freeIndex = s.freeIndex := by
  simp only [takeLampState]; split <;> simp

/-! ## Track table, motion unit, calibration -/

@[simp] theorem takeRecord_frame (index : Nat) (r : TrackRecord) (s : State) :
    (takeRecord index r s).pending = s.pending ∧ (takeRecord index r s).operating = s.operating ∧
      (takeRecord index r s).working = s.working ∧ (takeRecord index r s).committed = s.committed ∧
      (takeRecord index r s).motion = s.motion ∧ (takeRecord index r s).selector = s.selector ∧
      (takeRecord index r s).vision = s.vision ∧ (takeRecord index r s).cache = s.cache ∧
      (takeRecord index r s).builder = s.builder ∧ (takeRecord index r s).store = s.store ∧
      (takeRecord index r s).linkL = s.linkL ∧ (takeRecord index r s).linkR = s.linkR ∧
      (takeRecord index r s).vPort = s.vPort ∧ (takeRecord index r s).reader = s.reader ∧
      (takeRecord index r s).freeIndex = s.freeIndex := by
  unfold takeRecord; split
  · simp
  · split <;> simp

@[simp] theorem takeRecords_frame (records : List (Nat × TrackRecord)) (s : State) :
    (takeRecords records s).pending = s.pending ∧ (takeRecords records s).operating = s.operating ∧
      (takeRecords records s).working = s.working ∧ (takeRecords records s).committed = s.committed ∧
      (takeRecords records s).motion = s.motion ∧ (takeRecords records s).selector = s.selector ∧
      (takeRecords records s).vision = s.vision ∧ (takeRecords records s).cache = s.cache ∧
      (takeRecords records s).builder = s.builder ∧ (takeRecords records s).store = s.store ∧
      (takeRecords records s).linkL = s.linkL ∧ (takeRecords records s).linkR = s.linkR ∧
      (takeRecords records s).vPort = s.vPort ∧ (takeRecords records s).reader = s.reader ∧
      (takeRecords records s).freeIndex = s.freeIndex := by
  induction records generalizing s with
  | nil => simp [takeRecords]
  | cons r rest ih =>
    have h := ih (takeRecord r.1 r.2 s)
    simpa [takeRecords] using h

@[simp] theorem repeatMotion_frame (s : State) :
    (repeatMotion s).pending = s.pending ∧ (repeatMotion s).operating = s.operating ∧
      (repeatMotion s).working = s.working ∧ (repeatMotion s).committed = s.committed ∧
      (repeatMotion s).tracks = s.tracks ∧ (repeatMotion s).selector = s.selector ∧
      (repeatMotion s).vision = s.vision ∧ (repeatMotion s).cache = s.cache ∧
      (repeatMotion s).builder = s.builder ∧ (repeatMotion s).store = s.store ∧
      (repeatMotion s).linkL = s.linkL ∧ (repeatMotion s).linkR = s.linkR ∧
      (repeatMotion s).vPort = s.vPort ∧ (repeatMotion s).reader = s.reader ∧
      (repeatMotion s).freeIndex = s.freeIndex := by
  simp only [repeatMotion]; split <;> simp

@[simp] theorem acceptMotion_frame (r : MotionRecord) (s : State) :
    (acceptMotion r s).pending = s.pending ∧ (acceptMotion r s).operating = s.operating ∧
      (acceptMotion r s).working = s.working ∧ (acceptMotion r s).committed = s.committed ∧
      (acceptMotion r s).tracks = s.tracks ∧ (acceptMotion r s).vision = s.vision ∧
      (acceptMotion r s).cache = s.cache ∧ (acceptMotion r s).builder = s.builder ∧
      (acceptMotion r s).store = s.store ∧ (acceptMotion r s).linkL = s.linkL ∧
      (acceptMotion r s).linkR = s.linkR ∧ (acceptMotion r s).diag = s.diag ∧
      (acceptMotion r s).vPort = s.vPort ∧ (acceptMotion r s).cPort = s.cPort ∧
      (acceptMotion r s).reader = s.reader ∧ (acceptMotion r s).freeIndex = s.freeIndex := by
  simp [acceptMotion]

@[simp] theorem writeParam_frame (p : Param) (v : Int) (s : State) :
    (writeParam p v s).pending = s.pending ∧ (writeParam p v s).operating = s.operating ∧
      (writeParam p v s).committed = s.committed ∧ (writeParam p v s).tracks = s.tracks ∧
      (writeParam p v s).motion = s.motion ∧ (writeParam p v s).vision = s.vision ∧
      (writeParam p v s).cache = s.cache ∧ (writeParam p v s).builder = s.builder ∧
      (writeParam p v s).store = s.store ∧ (writeParam p v s).linkL = s.linkL ∧
      (writeParam p v s).linkR = s.linkR ∧ (writeParam p v s).vPort = s.vPort ∧
      (writeParam p v s).reader = s.reader ∧ (writeParam p v s).freeIndex = s.freeIndex := by
  simp only [writeParam]; split <;> simp

@[simp] theorem reportChange_frame (s : State) :
    (reportChange s).pending = s.pending ∧ (reportChange s).operating = s.operating ∧
      (reportChange s).working = s.working ∧ (reportChange s).committed = s.committed ∧
      (reportChange s).tracks = s.tracks ∧ (reportChange s).motion = s.motion ∧
      (reportChange s).selector = s.selector ∧ (reportChange s).vision = s.vision ∧
      (reportChange s).cache = s.cache ∧ (reportChange s).builder = s.builder ∧
      (reportChange s).store = s.store ∧ (reportChange s).linkL = s.linkL ∧
      (reportChange s).linkR = s.linkR ∧ (reportChange s).vPort = s.vPort ∧
      (reportChange s).reader = s.reader ∧ (reportChange s).freeIndex = s.freeIndex := by
  simp [reportChange, changeStatus]

/-! ## Distribution cache -/

@[simp] theorem newRequest_frame (d : Nat) (s : State) :
    (newRequest d s).pending = s.pending ∧ (newRequest d s).operating = s.operating ∧
      (newRequest d s).working = s.working ∧ (newRequest d s).committed = s.committed ∧
      (newRequest d s).tracks = s.tracks ∧ (newRequest d s).motion = s.motion ∧
      (newRequest d s).selector = s.selector ∧ (newRequest d s).vision = s.vision ∧
      (newRequest d s).builder = s.builder ∧ (newRequest d s).store = s.store ∧
      (newRequest d s).linkL = s.linkL ∧ (newRequest d s).linkR = s.linkR ∧
      (newRequest d s).diag = s.diag ∧ (newRequest d s).vPort = s.vPort ∧
      (newRequest d s).reader = s.reader ∧ (newRequest d s).freeIndex = s.freeIndex := by
  simp [newRequest]

@[simp] theorem missRequest_frame (d : Nat) (s : State) :
    (missRequest d s).pending = s.pending ∧ (missRequest d s).operating = s.operating ∧
      (missRequest d s).working = s.working ∧ (missRequest d s).committed = s.committed ∧
      (missRequest d s).tracks = s.tracks ∧ (missRequest d s).motion = s.motion ∧
      (missRequest d s).selector = s.selector ∧ (missRequest d s).vision = s.vision ∧
      (missRequest d s).builder = s.builder ∧ (missRequest d s).store = s.store ∧
      (missRequest d s).linkL = s.linkL ∧ (missRequest d s).linkR = s.linkR ∧
      (missRequest d s).diag = s.diag ∧ (missRequest d s).vPort = s.vPort ∧
      (missRequest d s).reader = s.reader ∧ (missRequest d s).freeIndex = s.freeIndex := by
  unfold missRequest; split
  · simp
  · split
    · split <;> simp
    · simp

@[simp] theorem lookupMiss_frame (d : Nat) (s : State) :
    (lookupMiss d s).pending = s.pending ∧ (lookupMiss d s).operating = s.operating ∧
      (lookupMiss d s).working = s.working ∧ (lookupMiss d s).committed = s.committed ∧
      (lookupMiss d s).tracks = s.tracks ∧ (lookupMiss d s).motion = s.motion ∧
      (lookupMiss d s).selector = s.selector ∧ (lookupMiss d s).vision = s.vision ∧
      (lookupMiss d s).builder = s.builder ∧ (lookupMiss d s).store = s.store ∧
      (lookupMiss d s).linkL = s.linkL ∧ (lookupMiss d s).linkR = s.linkR ∧
      (lookupMiss d s).vPort = s.vPort ∧ (lookupMiss d s).reader = s.reader ∧
      (lookupMiss d s).freeIndex = s.freeIndex := by
  simp [lookupMiss]

@[simp] theorem lookupParity_frame (d sequence : Nat) (way : Bool) (s : State) :
    (lookupParity d sequence way s).pending = s.pending ∧
      (lookupParity d sequence way s).operating = s.operating ∧
      (lookupParity d sequence way s).working = s.working ∧
      (lookupParity d sequence way s).committed = s.committed ∧
      (lookupParity d sequence way s).tracks = s.tracks ∧
      (lookupParity d sequence way s).motion = s.motion ∧
      (lookupParity d sequence way s).selector = s.selector ∧
      (lookupParity d sequence way s).vision = s.vision ∧
      (lookupParity d sequence way s).builder = s.builder ∧
      (lookupParity d sequence way s).store = s.store ∧
      (lookupParity d sequence way s).linkL = s.linkL ∧
      (lookupParity d sequence way s).linkR = s.linkR ∧
      (lookupParity d sequence way s).vPort = s.vPort ∧
      (lookupParity d sequence way s).reader = s.reader ∧
      (lookupParity d sequence way s).freeIndex = s.freeIndex := by
  simp [lookupParity]

@[simp] theorem lookup_frame (d sequence : Nat) (s : State) :
    (lookup d sequence s).1.pending = s.pending ∧ (lookup d sequence s).1.operating = s.operating ∧
      (lookup d sequence s).1.working = s.working ∧ (lookup d sequence s).1.committed = s.committed ∧
      (lookup d sequence s).1.tracks = s.tracks ∧ (lookup d sequence s).1.motion = s.motion ∧
      (lookup d sequence s).1.selector = s.selector ∧ (lookup d sequence s).1.vision = s.vision ∧
      (lookup d sequence s).1.store = s.store ∧ (lookup d sequence s).1.linkL = s.linkL ∧
      (lookup d sequence s).1.linkR = s.linkR ∧ (lookup d sequence s).1.vPort = s.vPort ∧
      (lookup d sequence s).1.reader = s.reader ∧ (lookup d sequence s).1.freeIndex = s.freeIndex := by
  unfold lookup; split
  · simp
  · split <;> simp

@[simp] theorem lookupFor_frame (mode : BeamMode) (sequence : Nat) (s : State) :
    (lookupFor mode sequence s).1.pending = s.pending ∧ (lookupFor mode sequence s).1.operating = s.operating ∧
      (lookupFor mode sequence s).1.working = s.working ∧ (lookupFor mode sequence s).1.committed = s.committed ∧
      (lookupFor mode sequence s).1.tracks = s.tracks ∧ (lookupFor mode sequence s).1.motion = s.motion ∧
      (lookupFor mode sequence s).1.selector = s.selector ∧ (lookupFor mode sequence s).1.vision = s.vision ∧
      (lookupFor mode sequence s).1.store = s.store ∧ (lookupFor mode sequence s).1.linkL = s.linkL ∧
      (lookupFor mode sequence s).1.linkR = s.linkR ∧ (lookupFor mode sequence s).1.vPort = s.vPort ∧
      (lookupFor mode sequence s).1.reader = s.reader ∧ (lookupFor mode sequence s).1.freeIndex = s.freeIndex := by
  unfold lookupFor; split <;> simp

@[simp] theorem fillWritten_frame (d : Nat) (s : State) :
    (fillWritten d s).pending = s.pending ∧ (fillWritten d s).operating = s.operating ∧
      (fillWritten d s).working = s.working ∧ (fillWritten d s).committed = s.committed ∧
      (fillWritten d s).tracks = s.tracks ∧ (fillWritten d s).motion = s.motion ∧
      (fillWritten d s).selector = s.selector ∧ (fillWritten d s).vision = s.vision ∧
      (fillWritten d s).builder = s.builder ∧ (fillWritten d s).store = s.store ∧
      (fillWritten d s).linkL = s.linkL ∧ (fillWritten d s).linkR = s.linkR ∧
      (fillWritten d s).diag = s.diag ∧ (fillWritten d s).vPort = s.vPort ∧
      (fillWritten d s).reader = s.reader ∧ (fillWritten d s).freeIndex = s.freeIndex := by
  simp only [fillWritten]; split <;> simp

/-- All that a written fill touches beyond its slot (R77). -/
theorem fillWritten_touches (d : Nat) (s : State) :
    fillWritten d s =
      { s with
        cache := { s.cache with failed := (fillWritten d s).cache.failed, request := (fillWritten d s).cache.request }
        cPort := { s.cPort with distRequest := (fillWritten d s).cPort.distRequest } } := by
  simp only [fillWritten, withdrawDistRequest]
  split <;> (try split) <;> rfl

/-- A fill written by step 2 of R76 touches slots alone. -/
theorem writeVictim_touches (d : Nat) (values : List Nat) (way : Bool) (c : DistCache) :
    writeVictim d values way c = { c with slots := (writeVictim d values way c).slots } := by
  unfold writeVictim
  dsimp only
  split <;> rfl

@[simp] theorem fillNoRoom_frame (d : Nat) (s : State) :
    (fillNoRoom d s).pending = s.pending ∧ (fillNoRoom d s).operating = s.operating ∧
      (fillNoRoom d s).working = s.working ∧ (fillNoRoom d s).committed = s.committed ∧
      (fillNoRoom d s).tracks = s.tracks ∧ (fillNoRoom d s).motion = s.motion ∧
      (fillNoRoom d s).selector = s.selector ∧ (fillNoRoom d s).vision = s.vision ∧
      (fillNoRoom d s).builder = s.builder ∧ (fillNoRoom d s).store = s.store ∧
      (fillNoRoom d s).linkL = s.linkL ∧ (fillNoRoom d s).linkR = s.linkR ∧
      (fillNoRoom d s).vPort = s.vPort ∧ (fillNoRoom d s).reader = s.reader ∧
      (fillNoRoom d s).freeIndex = s.freeIndex := by
  simp [fillNoRoom]

@[simp] theorem placeFill_frame (d : Nat) (values : List Nat) (s : State) :
    (placeFill d values s).pending = s.pending ∧ (placeFill d values s).operating = s.operating ∧
      (placeFill d values s).working = s.working ∧ (placeFill d values s).committed = s.committed ∧
      (placeFill d values s).tracks = s.tracks ∧ (placeFill d values s).motion = s.motion ∧
      (placeFill d values s).selector = s.selector ∧ (placeFill d values s).vision = s.vision ∧
      (placeFill d values s).builder = s.builder ∧ (placeFill d values s).store = s.store ∧
      (placeFill d values s).linkL = s.linkL ∧ (placeFill d values s).linkR = s.linkR ∧
      (placeFill d values s).vPort = s.vPort ∧ (placeFill d values s).reader = s.reader := by
  unfold placeFill; split
  · simp
  · split <;> simp

@[simp] theorem completeFill_frame (d : Nat) (values : List Nat) (s : State) :
    (completeFill d values s).pending = s.pending ∧ (completeFill d values s).operating = s.operating ∧
      (completeFill d values s).working = s.working ∧ (completeFill d values s).committed = s.committed ∧
      (completeFill d values s).tracks = s.tracks ∧ (completeFill d values s).motion = s.motion ∧
      (completeFill d values s).selector = s.selector ∧ (completeFill d values s).vision = s.vision ∧
      (completeFill d values s).builder = s.builder ∧ (completeFill d values s).store = s.store ∧
      (completeFill d values s).linkL = s.linkL ∧ (completeFill d values s).linkR = s.linkR ∧
      (completeFill d values s).vPort = s.vPort ∧ (completeFill d values s).reader = s.reader := by
  unfold completeFill; split
  · split <;> simp
  · simp

/-! ## Time -/

/-- An expiry is due exactly when its timer runs and this millisecond reaches the limit. -/
theorem mem_due (limit : Nat) (t : Option Nat) (c d : Instr) : c ∈ due limit t d ↔ c = d ∧ ∃ n ∈ t, limit ≤ n + 1 := by
  cases t <;> simp [due, and_comm]

/-! ## Zones (R114, R115) -/

/-- One zone's lowering of a value: to the least of the value, the zone's level over the zone, and the shoulder bound over a
shoulder. -/
theorem applyZone_spec (shoulder base r c : Nat) (z : Zone) (v : Nat) :
    let n := applyZone shoulder base r c z v
    n ≤ v ∧ (z.covers r c = true → n ≤ z.level) ∧ (z.shoulders r c = true → n ≤ base * shoulder / 256) ∧
      (n = v ∨ (z.covers r c = true ∧ n = z.level) ∨ (z.shoulders r c = true ∧ n = base * shoulder / 256)) := by
  simp only [applyZone]
  split <;> split <;> simp_all
  all_goals omega

/-- A fold of zones lowers a value to the least of it and of what each zone and shoulder over the segment allows. -/
theorem foldl_applyZone_spec (shoulder base r c : Nat) (zones : List Zone) (v : Nat) :
    let n := zones.foldl (fun v z => applyZone shoulder base r c z v) v
    n ≤ v ∧
      (∀ z ∈ zones, (z.covers r c = true → n ≤ z.level) ∧ (z.shoulders r c = true → n ≤ base * shoulder / 256)) ∧
      (n = v ∨ ∃ z ∈ zones,
        (z.covers r c = true ∧ n = z.level) ∨ (z.shoulders r c = true ∧ n = base * shoulder / 256)) := by
  induction zones generalizing v with
  | nil => simp
  | cons z zones ih =>
    have h := applyZone_spec shoulder base r c z v
    have t := ih (applyZone shoulder base r c z v)
    simp only [List.foldl_cons] at h t ⊢
    refine ⟨t.1.trans h.1, ?_, ?_⟩
    · intro y hy
      rcases List.mem_cons.mp hy with rfl | hy
      · exact ⟨fun g => t.1.trans (h.2.1 g), fun g => t.1.trans (h.2.2.1 g)⟩
      · exact t.2.1 y hy
    · rcases t.2.2 with e | ⟨y, hy, e⟩
      · rw [e]
        rcases h.2.2.2 with g | g
        · exact .inl g
        · exact .inr ⟨z, List.mem_cons_self, g⟩
      · exact .inr ⟨y, List.mem_cons_of_mem _ hy, e⟩

/-! ## Pattern builder -/

@[simp] theorem raiseBand_frame (sequence : Nat) (lamp : Side) (band : BudgetBand) (s : State) :
    (raiseBand sequence lamp band s).pending = s.pending ∧
      (raiseBand sequence lamp band s).operating = s.operating ∧
      (raiseBand sequence lamp band s).working = s.working ∧
      (raiseBand sequence lamp band s).committed = s.committed ∧
      (raiseBand sequence lamp band s).tracks = s.tracks ∧
      (raiseBand sequence lamp band s).motion = s.motion ∧
      (raiseBand sequence lamp band s).selector = s.selector ∧
      (raiseBand sequence lamp band s).vision = s.vision ∧
      (raiseBand sequence lamp band s).cache = s.cache ∧
      (raiseBand sequence lamp band s).builder = s.builder ∧
      (raiseBand sequence lamp band s).store = s.store ∧
      (raiseBand sequence lamp band s).linkL = s.linkL ∧
      (raiseBand sequence lamp band s).linkR = s.linkR ∧
      (raiseBand sequence lamp band s).vPort = s.vPort ∧
      (raiseBand sequence lamp band s).reader = s.reader ∧
      (raiseBand sequence lamp band s).freeIndex = s.freeIndex := by
  cases band <;> simp [raiseBand]

@[simp] theorem commitNotices_frame (h : FrameHeader) (previous : Mirror) (s : State) :
    (commitNotices h previous s).pending = s.pending ∧ (commitNotices h previous s).operating = s.operating ∧
      (commitNotices h previous s).working = s.working ∧ (commitNotices h previous s).committed = s.committed ∧
      (commitNotices h previous s).tracks = s.tracks ∧ (commitNotices h previous s).motion = s.motion ∧
      (commitNotices h previous s).selector = s.selector ∧ (commitNotices h previous s).vision = s.vision ∧
      (commitNotices h previous s).cache = s.cache ∧ (commitNotices h previous s).builder = s.builder ∧
      (commitNotices h previous s).store = s.store ∧ (commitNotices h previous s).linkL = s.linkL ∧
      (commitNotices h previous s).linkR = s.linkR ∧ (commitNotices h previous s).vPort = s.vPort ∧
      (commitNotices h previous s).reader = s.reader ∧ (commitNotices h previous s).freeIndex = s.freeIndex := by
  simp only [commitNotices]; split <;> split <;> simp

@[simp] theorem startBuild_frame (slot : Fin 6) (s : State) :
    (startBuild slot s).pending = s.pending ∧ (startBuild slot s).operating = s.operating ∧
      (startBuild slot s).working = s.working ∧ (startBuild slot s).committed = s.committed ∧
      (startBuild slot s).tracks = s.tracks ∧ (startBuild slot s).motion = s.motion ∧
      (startBuild slot s).selector = s.selector ∧ (startBuild slot s).vision = s.vision ∧
      (startBuild slot s).linkL = s.linkL ∧ (startBuild slot s).linkR = s.linkR ∧
      (startBuild slot s).vPort = s.vPort ∧ (startBuild slot s).reader = s.reader ∧
      (startBuild slot s).freeIndex = s.freeIndex := by
  simp [startBuild]

end Sys2Proof.Machine
end

