-- ==== Sys2Proof/WellFormed.lean ====
section
/-! DEFINITION. Which terms of `Instr` stand for a command of their row. A port message's data has a length a CAN FD frame can
have; a DIAG_READ of a row names that row's target or an unknown one; a link frame of a row has the row's kind code or one that
is no lamp-to-part kind; an expiry of a track entry names a track id an entry can carry. -/

namespace Sys2Proof

/-- The data lengths of a classic or CAN FD frame, in bytes. -/
def canFdLengths : List Nat := [0, 1, 2, 3, 4, 5, 6, 7, 8, 12, 16, 20, 24, 32, 48, 64]

/-- The data of a port message has a length a CAN FD frame can carry. -/
def messageOk (data : List Byte) : Bool := canFdLengths.contains data.length

/-- The target codes of Table R178. -/
def diagTargetCodes : List Byte := [0, 1, 2, 3, 4]

/-- A DIAG_READ of the row whose target code is `own`: a frame of a wrong length, or of the row's own target, or of an unknown
target (each row holds the discard of an unknown target, 95_what_each_step_holds.md). -/
def diagReadOk (own : Byte) (data : List Byte) : Bool :=
  messageOk data &&
    (data.length != 4 || data.head? == some own || !(data.head?.any diagTargetCodes.contains))

/-- The lamp-to-part kind codes of Table 10-6. -/
def lampKindCodes : List Byte := [0x20, 0x21, 0x22, 0x23, 0x24]

/-- A link frame of the row whose kind code is `own`: one of that kind, or one of no lamp-to-part kind (R138 discards it). -/
def linkFrameOk (own : Byte) (bytes : List Byte) : Bool :=
  bytes.head? == some own || !(bytes.head?.any lampKindCodes.contains)

/-- A track id an entry can carry (Table 1-1). -/
def trackIdOk (trackId : Nat) : Bool := decide (1 ≤ trackId ∧ trackId ≤ 254)

/-- The term stands for a command of its row. -/
def Instr.wellFormed : Instr → Bool
  | .tracks data => messageOk data
  | .trackEnd data => messageOk data
  | .releaseTimerExpiry trackId => trackIdOk trackId
  | .trackAgeExpiry trackId => trackIdOk trackId
  | .lane data => messageOk data
  | .scene data => messageOk data
  | .motion data => messageOk data
  | .presenceStale => true
  | .presenceLost => true
  | .driver data => messageOk data
  | .flashExpiry => true
  | .visionLoss => true
  | .buildTimerExpiry => true
  | .computeComplete => true
  | .commitBlockWriteDone => true
  | .commitHeaderWriteDone => true
  | .linkHeaderReadDone _ => true
  | .linkBlockReadDone _ => true
  | .blockCompareDone _ => true
  | .diagBlockReadDone => true
  | .linkFrameSendEnd _ => true
  | .lampState _ bytes => linkFrameOk 0x20 bytes
  | .statusTimerExpiry _ => true
  | .fetch _ bytes => linkFrameOk 0x21 bytes
  | .ack _ bytes => linkFrameOk 0x22 bytes
  | .retry _ bytes => linkFrameOk 0x23 bytes
  | .replyTimeout _ => true
  | .quit _ bytes => linkFrameOk 0x24 bytes
  | .distData data => messageOk data
  | .distDrop data => messageOk data
  | .distClear data => messageOk data
  | .distLock data => messageOk data
  | .requestTimerExpiry => true
  | .clearFaults data => messageOk data
  | .clearNotices data => messageOk data
  | .noticeMask data => messageOk data
  | .diagReadTrackEntry data => diagReadOk 0 data
  | .diagReadFrameBlock data => diagReadOk 1 data
  | .diagReadCaptureRecord data => diagReadOk 2 data
  | .diagReadCacheSlot data => diagReadOk 3 data
  | .diagReadLookupHistory data => diagReadOk 4 data
  | .calSet data => messageOk data
  | .calDone data => messageOk data
  | .configEnter data => messageOk data
  | .restart data => messageOk data
  | .powerOnReset => true
  | .busOff _ => true
  | .busOffRecovery _ => true
  | .transmissionEnd _ => true

end Sys2Proof
end

