-- ==== Sys2Proof/Laws/PerInstr.lean ====
section
/-! SUPPORT. A family of statements made per command: the data of a well-formed command that is a received frame has at most 64 bytes,
the longest a CAN FD frame can have. -/

namespace Sys2Proof.Laws.DataLength

open Sys2Proof.Machine

/-- A well-formed received frame has at most 64 bytes of data. -/
def Statement (i : Instr) : Prop :=
  i.wellFormed = true → ∀ port identifier data, receivedFrame i = some (port, identifier, data) → data.length ≤ 64

/-- A length of `canFdLengths` is at most 64. -/
theorem messageOk_length {data : List Byte} (h : messageOk data = true) : data.length ≤ 64 := by
  have h' : data.length ∈ canFdLengths := by simpa [messageOk] using h
  revert h'
  generalize data.length = n
  intro h'
  simp only [canFdLengths, List.mem_cons, List.not_mem_nil, or_false] at h'
  omega

theorem diagReadOk_length {own : Byte} {data : List Byte} (h : diagReadOk own data = true) : data.length ≤ 64 := by
  rw [diagReadOk, Bool.and_eq_true] at h
  exact messageOk_length h.1

theorem tracks (data : List Byte) : Statement (.tracks data) := by
  intro h port identifier d e
  cases e
  exact messageOk_length h

theorem trackEnd (data : List Byte) : Statement (.trackEnd data) := by
  intro h port identifier d e
  cases e
  exact messageOk_length h

theorem releaseTimerExpiry (trackId : Nat) : Statement (.releaseTimerExpiry trackId) := by
  intro h port identifier d e
  cases e

theorem trackAgeExpiry (trackId : Nat) : Statement (.trackAgeExpiry trackId) := by
  intro h port identifier d e
  cases e

theorem lane (data : List Byte) : Statement (.lane data) := by
  intro h port identifier d e
  cases e
  exact messageOk_length h

theorem scene (data : List Byte) : Statement (.scene data) := by
  intro h port identifier d e
  cases e
  exact messageOk_length h

theorem motion (data : List Byte) : Statement (.motion data) := by
  intro h port identifier d e
  cases e
  exact messageOk_length h

theorem presenceStale : Statement .presenceStale := by
  intro h port identifier d e
  cases e

theorem presenceLost : Statement .presenceLost := by
  intro h port identifier d e
  cases e

theorem driver (data : List Byte) : Statement (.driver data) := by
  intro h port identifier d e
  cases e
  exact messageOk_length h

theorem flashExpiry : Statement .flashExpiry := by
  intro h port identifier d e
  cases e

theorem visionLoss : Statement .visionLoss := by
  intro h port identifier d e
  cases e

theorem buildTimerExpiry : Statement .buildTimerExpiry := by
  intro h port identifier d e
  cases e

theorem computeComplete : Statement .computeComplete := by
  intro h port identifier d e
  cases e

theorem commitBlockWriteDone : Statement .commitBlockWriteDone := by
  intro h port identifier d e
  cases e

theorem commitHeaderWriteDone : Statement .commitHeaderWriteDone := by
  intro h port identifier d e
  cases e

theorem linkHeaderReadDone (link : Side) : Statement (.linkHeaderReadDone link) := by
  intro h port identifier d e
  cases e

theorem linkBlockReadDone (link : Side) : Statement (.linkBlockReadDone link) := by
  intro h port identifier d e
  cases e

theorem blockCompareDone (link : Side) : Statement (.blockCompareDone link) := by
  intro h port identifier d e
  cases e

theorem diagBlockReadDone : Statement .diagBlockReadDone := by
  intro h port identifier d e
  cases e

theorem linkFrameSendEnd (link : Side) : Statement (.linkFrameSendEnd link) := by
  intro h port identifier d e
  cases e

theorem lampState (link : Side) (bytes : List Byte) : Statement (.lampState link bytes) := by
  intro h port identifier d e
  cases e

theorem statusTimerExpiry (link : Side) : Statement (.statusTimerExpiry link) := by
  intro h port identifier d e
  cases e

theorem fetch (link : Side) (bytes : List Byte) : Statement (.fetch link bytes) := by
  intro h port identifier d e
  cases e

theorem ack (link : Side) (bytes : List Byte) : Statement (.ack link bytes) := by
  intro h port identifier d e
  cases e

theorem retry (link : Side) (bytes : List Byte) : Statement (.retry link bytes) := by
  intro h port identifier d e
  cases e

theorem replyTimeout (link : Side) : Statement (.replyTimeout link) := by
  intro h port identifier d e
  cases e

theorem quit (link : Side) (bytes : List Byte) : Statement (.quit link bytes) := by
  intro h port identifier d e
  cases e

theorem distData (data : List Byte) : Statement (.distData data) := by
  intro h port identifier d e
  cases e
  exact messageOk_length h

theorem distDrop (data : List Byte) : Statement (.distDrop data) := by
  intro h port identifier d e
  cases e
  exact messageOk_length h

theorem distClear (data : List Byte) : Statement (.distClear data) := by
  intro h port identifier d e
  cases e
  exact messageOk_length h

theorem distLock (data : List Byte) : Statement (.distLock data) := by
  intro h port identifier d e
  cases e
  exact messageOk_length h

theorem requestTimerExpiry : Statement .requestTimerExpiry := by
  intro h port identifier d e
  cases e

theorem clearFaults (data : List Byte) : Statement (.clearFaults data) := by
  intro h port identifier d e
  cases e
  exact messageOk_length h

theorem clearNotices (data : List Byte) : Statement (.clearNotices data) := by
  intro h port identifier d e
  cases e
  exact messageOk_length h

theorem noticeMask (data : List Byte) : Statement (.noticeMask data) := by
  intro h port identifier d e
  cases e
  exact messageOk_length h

theorem diagReadTrackEntry (data : List Byte) : Statement (.diagReadTrackEntry data) := by
  intro h port identifier d e
  cases e
  exact diagReadOk_length h

theorem diagReadFrameBlock (data : List Byte) : Statement (.diagReadFrameBlock data) := by
  intro h port identifier d e
  cases e
  exact diagReadOk_length h

theorem diagReadCaptureRecord (data : List Byte) : Statement (.diagReadCaptureRecord data) := by
  intro h port identifier d e
  cases e
  exact diagReadOk_length h

theorem diagReadCacheSlot (data : List Byte) : Statement (.diagReadCacheSlot data) := by
  intro h port identifier d e
  cases e
  exact diagReadOk_length h

theorem diagReadLookupHistory (data : List Byte) : Statement (.diagReadLookupHistory data) := by
  intro h port identifier d e
  cases e
  exact diagReadOk_length h

theorem calSet (data : List Byte) : Statement (.calSet data) := by
  intro h port identifier d e
  cases e
  exact messageOk_length h

theorem calDone (data : List Byte) : Statement (.calDone data) := by
  intro h port identifier d e
  cases e
  exact messageOk_length h

theorem configEnter (data : List Byte) : Statement (.configEnter data) := by
  intro h port identifier d e
  cases e
  exact messageOk_length h

theorem restart (data : List Byte) : Statement (.restart data) := by
  intro h port identifier d e
  cases e
  exact messageOk_length h

theorem powerOnReset : Statement .powerOnReset := by
  intro h port identifier d e
  cases e

theorem busOff (port : Port) : Statement (.busOff port) := by
  intro h port identifier d e
  cases e

theorem busOffRecovery (port : Port) : Statement (.busOffRecovery port) := by
  intro h port identifier d e
  cases e

theorem transmissionEnd (port : Port) : Statement (.transmissionEnd port) := by
  intro h port identifier d e
  cases e

end Sys2Proof.Laws.DataLength
end

