-- ==== Sys2Proof/Tests/Slice0.lean ====
section
/-! SUPPORT. The model's own tests: ill-formed terms refused, one or two steps of each command against the spec's worked examples and
tables, and for each statement with hypotheses a named witness that meets them. -/

namespace Sys2Proof.Tests

open Sys2Proof.Machine

set_option Elab.async false

/-! ## Helpers -/

/-- What a command leaves of the state, seen through `f`. -/
def outcome {α : Type} (f : State → α) (c : Instr) (s : State) : Option α :=
  match exec c s with
  | .next t => some (f t)
  | _ => none

/-- The state after a command. -/
def after (c : Instr) (s : State) : State :=
  match exec c s with
  | .next t => t
  | _ => s

/-- A step from the state answers a next state. -/
def completes (s : State) : Bool :=
  match step s with
  | .next _ => true
  | _ => false

theorem of_completes {s : State} (h : completes s = true) : ∃ t, step s = .next t := by
  unfold completes at h
  split at h
  · exact ⟨_, ‹_›⟩
  · cases h

/-- Power-on reset's state with RUN entered under the defaults. -/
def inRun : State := enterRun State.reset

/-- A track entry of an id, class and distance, LIVE with age 0. -/
def entry (id : Nat) (cls : TrackClass) (dist : Nat) : TrackEntry :=
  { id := id, cls := cls, thetaL := 180, thetaR := 260, phiT := 40, dist := dist, conf := 90, life := .live, age := 0 }

/-- The full table of Section 1.9. -/
def fullTable : List TrackEntry :=
  (List.range 10).map (fun i => entry (i + 1) .oncoming 500) ++ (List.range 8).map (fun i => entry (i + 11) .preceding 500) ++
    [entry 30 .otherLight 1200, entry 31 .otherLight 0, entry 32 .otherLight 900, entry 40 .sign 800, entry 41 .sign 0,
     entry 42 .sign 0]

/-- The bytes of one record as Table 10-3 lays them out, of an id, class code and distance, with θ 180 and 260, φT 40, conf 90. -/
def recordBytes (id cls dist : Nat) : List Byte :=
  [putByte id, putByte cls, 0x00, 0xB4, 0x01, 0x04] ++ put16 ((40 * 2 ^ 20 + dist * 2 ^ 7) / 2 ^ 16)
    ++ put16 ((dist * 2 ^ 7 + 90) % 2 ^ 16)

/-- The state with a table. -/
def withTracks (tracks : List TrackEntry) (s : State) : State := { s with tracks := tracks }

/-- A motion record of a speed and an alive counter. -/
def motionRecord (v alive : Nat) : MotionRecord := { v := v, omega := 0, pCab := 0, pCh := 0, reverse := false, alive := alive }

/-- Motion FRESH with a record. -/
def fresh (r : MotionRecord) (s : State) : State :=
  { s with motion := { resetMotion with record := some r, presence := .fresh, timer := some 0 } }

/-- A link that is UP at 35 °C. -/
def linkUp : LampLink :=
  { resetLink with state := .up, statusTimer := some 0, temp := some 35, supplyOk := some true }

/-- Both links UP. -/
def bothUp (s : State) : State := { s with linkL := linkUp, linkR := linkUp }

/-- A cache slot that holds a distribution of one value under an id. -/
def holding (d v : Nat) : CacheSlot := filledSlot d (List.replicate 120 v)

/-- The cache with two slots of a set given. -/
def withSet (d : Nat) (way0 way1 : CacheSlot) (s : State) : State :=
  { s with cache := (s.cache.setSlot d false way0).setSlot d true way1 }

/-- A STORED slot of a sequence with a holder set. -/
def storedSlot (newest : Bool) (sequence : Nat) (holders : HolderSet) : FrameSlot :=
  { limpSlot with newest := newest, sequence := some sequence, holders := holders }

/-- Ids at the positions of a table. -/
def ids (s : State) : List Nat := s.tracks.map (·.id)

/-- A slot's row of Table 7-5: state, sequence, newest mark, holder byte. -/
def slotRow (i : Fin 6) (s : State) : SlotState × Option Nat × Bool × Byte :=
  let sl := s.store.slot i
  (sl.state, sl.sequence, sl.newest, sl.holders.byte)

/-! ## Ill-formed terms (one for each check) -/

theorem test_wellFormed_message_length :
    (Instr.tracks (List.replicate 9 0)).wellFormed = false ∧ (Instr.trackEnd (List.replicate 65 0)).wellFormed = false ∧
      (Instr.lane (List.replicate 13 0)).wellFormed = false ∧ (Instr.scene (List.replicate 17 0)).wellFormed = false ∧
      (Instr.motion (List.replicate 11 0)).wellFormed = false ∧ (Instr.driver (List.replicate 9 0)).wellFormed = false ∧
      (Instr.distData (List.replicate 63 0)).wellFormed = false ∧ (Instr.distDrop (List.replicate 9 0)).wellFormed = false ∧
      (Instr.distClear (List.replicate 9 0)).wellFormed = false ∧ (Instr.distLock (List.replicate 9 0)).wellFormed = false ∧
      (Instr.clearFaults (List.replicate 9 0)).wellFormed = false ∧
      (Instr.clearNotices (List.replicate 9 0)).wellFormed = false ∧
      (Instr.noticeMask (List.replicate 9 0)).wellFormed = false ∧ (Instr.calSet (List.replicate 9 0)).wellFormed = false ∧
      (Instr.calDone (List.replicate 9 0)).wellFormed = false ∧ (Instr.configEnter (List.replicate 9 0)).wellFormed = false ∧
      (Instr.restart (List.replicate 9 0)).wellFormed = false ∧ (Instr.tracks (List.replicate 16 0)).wellFormed = true := by
  decide

theorem test_wellFormed_track_id :
    (Instr.releaseTimerExpiry 0).wellFormed = false ∧ (Instr.releaseTimerExpiry 255).wellFormed = false ∧
      (Instr.trackAgeExpiry 0).wellFormed = false ∧ (Instr.trackAgeExpiry 255).wellFormed = false ∧
      (Instr.releaseTimerExpiry 1).wellFormed = true ∧ (Instr.trackAgeExpiry 254).wellFormed = true := by
  decide

theorem test_wellFormed_link_kind :
    (Instr.lampState .left [0x21]).wellFormed = false ∧ (Instr.fetch .left [0x20]).wellFormed = false ∧
      (Instr.ack .left [0x23]).wellFormed = false ∧ (Instr.retry .left [0x22]).wellFormed = false ∧
      (Instr.quit .left [0x21]).wellFormed = false ∧ (Instr.quit .left [0x24]).wellFormed = true := by
  decide

theorem test_wellFormed_diag_target :
    (Instr.diagReadTrackEntry [1, 0, 0, 0]).wellFormed = false ∧ (Instr.diagReadFrameBlock [0, 0, 0, 0]).wellFormed = false ∧
      (Instr.diagReadCaptureRecord [0, 0, 0, 0]).wellFormed = false ∧
      (Instr.diagReadCacheSlot [4, 0, 0, 0]).wellFormed = false ∧
      (Instr.diagReadLookupHistory [3, 0, 0, 0]).wellFormed = false ∧
      (Instr.diagReadTrackEntry (List.replicate 9 0)).wellFormed = false ∧
      (Instr.diagReadLookupHistory [4, 0, 0, 0]).wellFormed = true := by
  decide

/-! ## Fields, roundings and the CRC -/

/-- 10.4: "Over the nine bytes 0x31 to 0x39 the CRC is 0x29B1." -/
theorem test_crc16_nine_bytes : crc16 [0x31, 0x32, 0x33, 0x34, 0x35, 0x36, 0x37, 0x38, 0x39] = 0x29B1#16 := by decide +kernel

/-- Tables 2-6 and 2-7: 472.68, 369.53 and −236.5 rounded to nearest, halves away from zero. -/
theorem test_roundDiv : roundDiv 16500000 34907 = 473 ∧ roundDiv 94600 256 = 370 ∧ roundDiv (-60544) 256 = -237 := by decide

/-- R104: floor(−30 / 50) = −1. -/
theorem test_floorDiv : floorDiv (-30) 50 = -1 := by decide

/-! ## Track table -/

/-- Table 10-3, with the record of Section 5.10 written out. -/
theorem test_tracks_appends :
    outcome (·.tracks) (.tracks [1, 0, 0, 0, 21, 0, 0x00, 0xB4, 0x01, 0x04, 0x02, 0x82, 0xEE, 0x5A, 0, 0]) inRun =
      some [entry 21 .oncoming 1500] := by
  decide +kernel

/-- Tables 1-6 and 1-7. -/
theorem test_tracks_full_table :
    outcome (fun s => ((ids s).drop 18, s.diag.capture.map (·.report)))
      (.tracks (padTo 48 ([4, 0, 0, 0] ++ recordBytes 77 3 600 ++ recordBytes 78 2 300 ++ recordBytes 79 2 0
        ++ recordBytes 80 0 2500))) (withTracks fullTable inRun) =
      some ([30, 31, 32, 77, 78, 80], some (itemFault .tableFull (.track 79 2))) := by
  decide +kernel

/-- Table 1-8 at 30 ms and at 45 ms. -/
theorem test_trackEnd_releases_once :
    outcome (fun s => s.tracks.map (·.life)) (.trackEnd [12]) (withTracks [{ entry 12 .oncoming 0 with age := 30 }] inRun) =
        some [.releasing 40] ∧
      outcome (fun s => s.tracks.map (·.life)) (.trackEnd [12])
        (withTracks [{ entry 12 .oncoming 0 with age := 45, life := .releasing 25 }] inRun) = some [.releasing 25] := by
  decide +kernel

/-- R11: the entries behind move up. -/
theorem test_releaseTimerExpiry_removes :
    outcome ids (.releaseTimerExpiry 2)
      (withTracks [entry 1 .sign 0, { entry 2 .sign 0 with life := .releasing 1 }, entry 3 .sign 0] inRun) = some [1, 3] := by
  decide +kernel

/-- R12, R13: the entry is removed, and a second expiry finds none. -/
theorem test_trackAgeExpiry_removes :
    outcome ids (.trackAgeExpiry 1) (withTracks [entry 1 .sign 0, entry 3 .sign 0] inRun) = some [3] ∧
      outcome ids (.trackAgeExpiry 1) (withTracks [entry 3 .sign 0] inRun) = some [3] := by
  decide +kernel

/-! ## Motion unit, mode selector, vision presence -/

/-- R30: κ 5000 is 0x1388; −32768 is clamped to −20000 and 200 to 100. -/
theorem test_lane_fields :
    outcome (·.motion.lane) (.lane [0x13, 0x88, 90]) inRun = some (some { kappa := 5000, conf := 90, age := 0 }) ∧
      outcome (·.motion.lane) (.lane [0x80, 0x00, 200]) inRun = some (some { kappa := -20000, conf := 100, age := 0 }) := by
  decide +kernel

/-- R46: bits 0 and 2 are street_lit and rain, and the ambient is clamped to 10000. -/
theorem test_scene_fields :
    outcome (·.selector.scene) (.scene [5, 0xFF, 0xFF]) inRun =
      some { streetLit := true, fog := false, rain := true, ambient := some 10000 } := by
  decide +kernel

/-- Table 2-5: the third repeat raises MOTION_FROZEN. -/
theorem test_motion_third_repeat :
    outcome (fun s => (s.motion.runCount, s.diag.capture.map (·.report.kind)))
      (.motion [0x08, 0x98, 0, 0, 0, 0, 0, 0, 5, 0, 0, 0])
      { inRun with motion := { resetMotion with record := some (motionRecord 2200 5), runCount := 2 } } =
      some (3, some .motionFrozen) := by
  decide +kernel

/-- Table 3-7, judgment 6: v 2180, κ 5000, count 2 before. -/
theorem test_motion_switches_class :
    outcome (fun s => (s.selector.roadClass, s.selector.candidate, s.selector.count, s.selector.gate))
      (.motion [0x08, 0x84, 0, 0, 0, 0, 0, 0, 6, 0, 0, 0])
      { inRun with
        motion := { resetMotion with lane := some { kappa := 5000, conf := 90, age := 0 } }
        selector := { resetSelector with roadClass := .motorway, candidate := some .winding, count := 2 } } =
      some (.winding, none, 0, .opened) := by
  decide +kernel

/-- R28. -/
theorem test_presence_thresholds :
    outcome (fun s => (s.motion.presence, s.motion.timer)) .presenceStale (fresh (motionRecord 0 0) inRun) =
        some (.stale, some 100) ∧
      outcome (fun s => (s.motion.presence, s.motion.timer, s.diag.summary)) .presenceLost (fresh (motionRecord 0 0) inRun) =
        some (.lost, none, 1#14) := by
  decide +kernel

/-- Table 3-8 at 1000 ms and at 4050 ms. -/
theorem test_driver_flash :
    outcome (fun s => (s.selector.request, s.selector.flash)) (.driver [4])
        { inRun with selector := { resetSelector with request := .steady .auto, lastSteady := .auto } } =
        some (.flash, .active 0) ∧
      outcome (fun s => (s.selector.request, s.selector.flash)) (.driver [4])
        { inRun with selector := { resetSelector with request := .steady .auto, lastSteady := .auto, flash := .spent } } =
        some (.steady .auto, .spent) := by
  decide +kernel

/-- Table 3-8 at 4000 ms. -/
theorem test_flashExpiry_reverts :
    outcome (fun s => (s.selector.request, s.selector.flash)) .flashExpiry
      { inRun with selector := { resetSelector with request := .flash, lastSteady := .auto, flash := .active 2999 } } =
      some (.steady .auto, .spent) := by
  decide +kernel

/-- R49: the fault, the table, the flags and the ambient. -/
theorem test_visionLoss :
    outcome (fun s => (s.tracks.length, s.selector.scene, s.diag.summary)) .visionLoss
      { withTracks fullTable inRun with
        vision := { present := true, timer := some 199 }
        selector := { resetSelector with scene := { streetLit := true, fog := true, rain := true, ambient := some 5 } } } =
      some (0, { streetLit := false, fog := false, rain := false, ambient := some 5 }, 2#14) := by
  decide +kernel

/-! ## Builds -/

/-- Table 4-4 at 0 ms: build 101 misses id 1. -/
def countryBuild : State :=
  { inRun with
    selector := { resetSelector with request := .steady .auto, lastSteady := .auto, gate := .opened }
    motion := { resetMotion with record := some (motionRecord 2200 0), presence := .fresh, timer := some 0 }
    vision := { present := true, timer := some 0 }
    builder := { inRun.builder with mirror := { inRun.builder.mirror with sequence := 100 } } }

theorem test_buildTimerExpiry_misses :
    outcome (fun s => s.builder.phase.build.map fun b => (b.sequence, b.slot)) .buildTimerExpiry countryBuild =
        some (some (101, 1)) ∧
      outcome (fun s => s.builder.phase.build.map fun b => (b.snapshot.selection.mode, b.snapshot.lookup)) .buildTimerExpiry
        countryBuild = some (some (.country, some .miss)) ∧
      outcome (fun s => (s.cache.request, s.cPort.distRequest)) .buildTimerExpiry countryBuild =
        some (some { id := 1, sends := 1, timer := 0 }, some 1) := by
  decide +kernel

/-- R86: an expiry during a build is skipped, with the build's sequence in the capture. -/
theorem test_buildTimerExpiry_skips :
    outcome (fun s => s.diag.capture.map (·.report)) .buildTimerExpiry (after .buildTimerExpiry inRun) =
      some (some { kind := .buildOverrun, sequence := some 1, link := none, item := none }) := by
  decide +kernel

/-- The working copy of Section 6.11: rows of 200, 180 and 120. -/
def uniformRows : List Nat := List.replicate 40 200 ++ List.replicate 40 180 ++ List.replicate 40 120

/-- The snapshot of Sections 5.10 and 6.11. -/
def hotClimb : Snapshot :=
  { tracks := [{ cls := .oncoming, thetaL := 180, thetaR := 260, phiT := 40, dist := 1500, age := 0 }]
    motion := some { motionRecord 2200 0 with pCab := 30 }, presence := .fresh, kappa := 0, source := .vision
    selection := { mode := .mountain, reason := .noFallback, flash := false }, request := .steady .auto, roadClass := .winding
    lookup := some .hit, lampL := { up := true, temp := some 125, dead := [] }, lampR := { up := true, temp := some 118, dead := [] }
    previous := { frameToMirror limpFrame with sequence := 229, mode := .mountain, left := uniformRows, right := uniformRows } }

/-- The build of Section 6.11. -/
def hotBuild : Build := { sequence := 230, slot := 1, snapshot := hotClimb }

/-- The builder COMPUTING that build. -/
def computing : State :=
  { inRun with
    store := inRun.store.claim 1
    builder := { inRun.builder with phase := .computing hotBuild, workingCopy := some uniformRows, mirror := hotClimb.previous } }

/-- Table 5-6. -/
theorem test_zone_of_truck :
    (zoneOf defaultCal hotClimb .left { cls := .oncoming, thetaL := 180, thetaR := 260, phiT := 40, dist := 1500, age := 0 }).map
        (fun z => (([z.cL, z.cR], z.rows), [z.leftShoulder, z.rightShoulder])) =
        some (([23, 26], [0, 1]), [some 22, some 27]) ∧
      (zoneOf defaultCal hotClimb .right { cls := .oncoming, thetaL := 180, thetaR := 260, phiT := 40, dist := 1500, age := 0 }).map
        (fun z => (([z.cL, z.cR], z.rows), [z.leftShoulder, z.rightShoulder])) =
        some (([22, 25], [0, 1]), [some 21, some 26]) := by
  decide +kernel

/-- Table 6-5: the R lamp's last four columns, and the L lamp's column 0, under bend −73. -/
theorem test_shifted_edge :
    let dist := List.replicate 30 0 ++ [240, 240, 220, 200, 180, 160, 120, 80, 40, 20] ++ List.replicate 80 0
    [36, 37, 38, 39].map (shiftedValue dist .right (-73) 0) = [62, 31, 11, 0] ∧ shiftedValue dist .left (-73) 0 0 = 58 := by
  decide +kernel

/-- Table 6-6, builds 1, 2, 4 and 5. -/
theorem test_rise :
    applyRise false 16 40 200 = 56 ∧ applyRise true 16 56 230 = 230 ∧ applyRise false 16 230 200 = 200 ∧
      applyRise false 16 200 0 = 0 := by
  decide

/-- Table 6-8: L is RED, R is YELLOW with S 18100; 200 × 18000 / 18100 is 198.89. -/
theorem test_computeComplete_hot_climb :
    outcome (fun s => s.builder.phase.frame.map fun f =>
        ([f.header.clampedL, f.header.yellowL, f.header.clampedR, f.header.yellowR], f.right.sum, f.left.head?))
        .computeComplete computing = some (some ([true, false, false, true], 18100, some 198)) ∧
      outcome (fun s => s.diag.capture.map (·.report)) .computeComplete computing =
        some (some { kind := .budgetRed, sequence := some 230, link := some .left, item := none }) := by
  decide +kernel

/-- A frame whose L values are 0 to 119 in order. -/
def countedFrame : Frame :=
  { limpFrame with header := { limpFrame.header with sequence := 1, mode := .full }, left := List.range 120 }

/-- A build COMMITTING that frame into slot 1 with some writes done, the access under way given. -/
def committing (n : Nat) (access : PortAccess) : State :=
  { inRun with
    store := { inRun.store.claim 1 with
      busy := some { requester := .commit, access := access, wanted := true, found := none }, lastGranted := .commit }
    builder := { inRun.builder with
      phase := .committing { hotBuild with sequence := 1, snapshot := { hotClimb with previous := frameToMirror limpFrame } }
        countedFrame n } }

/-- Section 5.3 of the introduction: block 2 is columns 16 to 23 of rows 0, 1 and 2. -/
theorem test_commitBlockWriteDone_order :
    outcome (fun s => ((s.store.slot 1).memory.block .left 2, s.store.busy.map (·.access))) .commitBlockWriteDone
      (committing 2 (.blockWrite .left 2)) =
      some ([16, 17, 18, 19, 20, 21, 22, 23, 56, 57, 58, 59, 60, 61, 62, 63, 96, 97, 98, 99, 100, 101, 102, 103],
        some (.blockWrite .left 3)) := by
  decide +kernel

/-- Table 7-5, commit of 1, without holders: slot 0 becomes FREE. R170: mode and STATUS. R176: columns below 32 are dark. -/
theorem test_commitHeaderWriteDone :
    outcome (fun s => [slotRow 0 s, slotRow 1 s]) .commitHeaderWriteDone (committing 10 .headerWrite) =
        some [(.free, none, false, 0), (.stored, some 1, true, 0)] ∧
      outcome (fun s => (s.diag.notices, s.cPort.status.map fun r => (r.atCommit, r.header.sequence)))
        .commitHeaderWriteDone (committing 10 .headerWrite) = some (1#8, some (true, 1)) ∧
      outcome (fun s => s.vPort.sending.map fun m => m.data.take 10) .commitHeaderWriteDone (committing 10 .headerWrite) =
        some (some [0, 1, 0xFF, 0xFF, 0xFF, 0xFF, 0x00, 0, 0, 0]) := by
  decide +kernel

/-! ## Lamp links -/

/-- The L-link of Section 8.6 after its FETCH: applied slot 3, sequence 411, incoming slot 1, sequence 413, tag 7, at a step. -/
def transferAt (step : TransferStep) (map : List (Fin 5)) (retries : Nat) : State :=
  let t : Transfer :=
    { tag := 7, slot := 1, sequence := 413, map := map, same := false, step := step, retries := retries
      replyTimer := if step = .compare then none else some 0 }
  { inRun with
    linkL := { linkUp with transfer := some t, applied := some { slot := 3, sequence := 411 }, tagCounter := 7 }
    store :=
      { inRun.store with
        slots := ((inRun.store.slots.set 0 (freeSlot (frameToMemory limpFrame))).set 1
            (storedSlot true 413 { noHolders with leftIncoming := true })).set 3
            (storedSlot false 411 { noHolders with leftApplied := true }) } }

/-- That link with an access of its own under way. -/
def reading (step : TransferStep) (map : List (Fin 5)) (access : PortAccess) : State :=
  let s := transferAt step map 0
  { s with store := { s.store with
      busy := some { requester := .linkL, access := access, wanted := true, found := none }, lastGranted := .linkL } }

/-- Section 8.6 before the FETCH: slot 1 newest with 413, applied slot 3, tag counter 6. -/
def beforeFetch : State :=
  { transferAt .header [] 0 with
    linkL := { linkUp with applied := some { slot := 3, sequence := 411 }, tagCounter := 6 }
    store := (transferAt .header [] 0).store.releaseIncoming .left }

/-- Table 10-6: HEADER of the LIMP frame under tag 7, all five blocks. -/
theorem test_linkHeaderReadDone_frame :
    outcome (fun s => s.linkL.wire.map fun b => b.take 12) (.linkHeaderReadDone .left)
      (reading .header [0, 1, 2, 3, 4] (.headerRead 1)) =
      some (some [0x10, 7, 0, 0, 1, 0, 0x01, 0, 0, 0, 0, 0x1F]) := by
  decide +kernel

/-- Table 10-6: BLOCK 2 under tag 7, sequence 413, which is 0x019D. -/
theorem test_linkBlockReadDone_frame :
    outcome (fun s => s.linkL.wire.map fun b => (b.take 5, b.length)) (.linkBlockReadDone .left)
      (reading (.block 2) [1, 2] (.blockRead 1 .left 2)) = some (some ([0x11, 7, 0x01, 0x9D, 2], 31)) := by
  decide +kernel

/-- Section 8.6: a compare that gives EQUAL leaves the map; the fifth is followed by HEADER's read. -/
theorem test_blockCompareDone_last :
    outcome (fun s => (s.linkL.transfer.map fun t => (t.map, t.step), s.store.busy.map (·.access))) (.blockCompareDone .left)
      (reading .compare [1, 2] (.compare 1 3 .left 4)) = some (some ([1, 2], .header), some (.headerRead 1)) := by
  decide +kernel

/-- Section 8.6: a compare that gives DIFFER adds its block. -/
theorem test_blockCompareDone_differ :
    let s := reading .compare [] (.compare 1 3 .left 1)
    outcome (fun s => s.linkL.transfer.map (·.map)) (.blockCompareDone .left)
      { s with store := s.store.writeMemory 1 fun m => m.writeBlock .left 1 (List.replicate 24 9) } = some (some [1]) := by
  decide +kernel

/-- R146: the frame that waits follows the frame on the wire. -/
theorem test_linkFrameSendEnd_follows :
    outcome (fun s => (s.linkL.wire, s.linkL.waiting)) (.linkFrameSendEnd .left)
      { inRun with linkL := { linkUp with wire := some [1], waiting := some [2] } } = some (some [2], none) := by
  decide +kernel

/-- Table 8-8, first row, on a DOWN link: 35 °C, supply ok, list 5, 5, 130, 17. -/
theorem test_lampState_dead_set :
    outcome (fun s => (s.linkR.dead, s.linkR.temp, s.linkR.deadLimitFlag))
      (.lampState .right (withCrc [0x20, 0, 35, 1, 4, 5, 5, 130, 17])) inRun = some ([5, 17], some 35, false) := by
  decide +kernel

/-- Table 8-8, second row: twelve entries raise DEAD_LIMIT for R. -/
theorem test_lampState_dead_limit :
    outcome (fun s => (s.linkR.deadLimitFlag, s.diag.capture.map (·.report)))
      (.lampState .right (withCrc [0x20, 0, 35, 1, 12, 3, 4, 5, 6, 7, 8, 43, 44, 45, 46, 47, 48])) (bothUp inRun) =
      some (true, some (linkFault .deadLimit .right none)) := by
  decide +kernel

/-- Table 9-6, step 1: the mask has DIST_MISS (bit 5) masked. -/
theorem test_statusTimerExpiry :
    let s := bothUp { inRun with diag := { resetDiag with mask := 32#8 } }
    outcome (fun s => (s.diag.summary, s.diag.notices, s.cPort.notice)) (.statusTimerExpiry .left) s =
      some (32#14, 20#8, some 20#8) := by
  decide +kernel

/-- Table 8-7 at 0.0 ms: tag 7, incoming slot 1, and the first compare. -/
theorem test_fetch_delta :
    outcome (fun s => s.linkL.transfer.map fun t => (t.tag, t.slot, t.step)) (.fetch .left (withCrc [0x21, 0x01, 0x9B, 0]))
        beforeFetch = some (some (7, 1, .compare)) ∧
      outcome (fun s => (s.store.busy.map (·.access), slotRow 1 s)) (.fetch .left (withCrc [0x21, 0x01, 0x9B, 0])) beforeFetch =
        some (some (.compare 1 3 .left 0), .stored, some 413, true, 2) := by
  decide +kernel

/-- R144: FULL takes all five blocks. -/
theorem test_fetch_full :
    outcome (fun s => s.linkL.transfer.map fun t => (t.map, t.same, t.step)) (.fetch .left (withCrc [0x21, 0x01, 0x9B, 1]))
      beforeFetch = some (some ([0, 1, 2, 3, 4], false, .header)) := by
  decide +kernel

/-- Table 8-7 at 2.3 and 2.9 ms: ACK of BLOCK 1 (step code 2) begins BLOCK 2; a late copy is ignored. -/
theorem test_ack_next_block :
    outcome (fun s => s.linkL.transfer.map (·.step)) (.ack .left (withCrc [0x22, 7, 2])) (transferAt (.block 1) [1, 2] 1) =
        some (some (.block 2)) ∧
      outcome (fun s => s.linkL.transfer.map (·.step)) (.ack .left (withCrc [0x22, 7, 2])) (transferAt (.block 2) [1, 2] 1) =
        some (some (.block 2)) := by
  decide +kernel

/-- Table 8-7 at 8.9 ms: slot 3 becomes FREE, slot 1 holds L-applied. -/
theorem test_ack_end_promotes :
    outcome (fun s => (s.linkL.transfer, s.linkL.applied)) (.ack .left (withCrc [0x22, 7, 6]))
        (transferAt .finish [1, 2] 2) = some (none, some { slot := 1, sequence := 413 }) ∧
      outcome (slotRow 3) (.ack .left (withCrc [0x22, 7, 6])) (transferAt .finish [1, 2] 2) = some (.free, none, false, 0) ∧
      outcome (slotRow 1) (.ack .left (withCrc [0x22, 7, 6])) (transferAt .finish [1, 2] 2) =
        some (.stored, some 413, true, 1) := by
  decide +kernel

/-- Table 8-7 at 1.7 ms: RETRY of BLOCK 1 with retries 0. -/
theorem test_retry_resends :
    outcome (fun s => (s.linkL.transfer.map fun t => (t.step, t.retries), s.store.busy.map (·.access)))
      (.retry .left (withCrc [0x23, 7, 2])) (transferAt (.block 1) [1, 2] 0) =
      some (some (.block 1, 1), some (.blockRead 1 .left 1)) := by
  decide +kernel

/-- Table 8-7 at 8.4 ms: END again with retries 2; Section 8.6's end: at 3 the transfer fails with item END. -/
theorem test_replyTimeout :
    outcome (fun s => (s.linkL.transfer.map (·.retries), s.linkL.wire.map fun b => b.take 4)) (.replyTimeout .left)
        (transferAt .finish [1, 2] 1) = some (some 2, some [0x12, 7, 0x01, 0x9D]) ∧
      outcome (fun s => (s.linkL.transfer, s.diag.capture.map (·.report))) (.replyTimeout .left)
        (transferAt .finish [1, 2] 3) = some (none, some (linkFault .linkTransferFailed .left (some (.step .finish)))) := by
  decide +kernel

/-- R152. -/
theorem test_quit_abandons :
    outcome (fun s => (s.linkL.transfer, s.linkL.applied)) (.quit .left (withCrc [0x24, 7])) (transferAt .compare [] 0) =
        some (none, some { slot := 3, sequence := 411 }) ∧
      outcome (slotRow 1) (.quit .left (withCrc [0x24, 7])) (transferAt .compare [] 0) = some (.stored, some 413, true, 0) := by
  decide +kernel

/-- R138: a frame whose CRC does not agree has no effect. -/
theorem test_bad_crc_ignored :
    outcome (fun s => s.linkL.transfer.isSome) (.quit .left [0x24, 7, 0, 0]) (transferAt .header [] 0) = some true := by
  decide +kernel

/-! ## Distribution cache -/

/-- Set 1 of Section 4.9 at 318 ms: id 5 valid in way 0, a fill of id 1 open, its request sent twice. -/
def openFill : State :=
  let s := withSet 1 (holding 5 10) resetCacheSlot inRun
  { s with cache := { s.cache with
      fill := some { id := 1, values := List.replicate 60 7 }, request := some { id := 1, sends := 2, timer := 68 } } }

/-- Table 4-4 at 318 ms. -/
theorem test_distData_placed :
    outcome (fun s => ((s.cache.slot 1 false).tag, (s.cache.slot 1 true).tag, (s.cache.slot 1 true).lastUse, s.cache.request))
      (.distData ([1, 1] ++ List.replicate 62 9)) openFill = some (some 5, some 1, 0, none) := by
  decide +kernel

/-- Set 2 of Section 4.10: lock level 1, protect on, id 2 in way 0, id 6 in way 1. -/
def lockedSet : State :=
  let s := withSet 2 (holding 2 10) (holding 6 10) inRun
  { s with cache := { s.cache with lockLevel := 1, protect := true } }

/-- Table 4-5: a parity error of id 2 in build 240 leaves the locked slot invalid with its tag. -/
theorem test_lookup_parity :
    let s := withSet 2 { holding 2 10 with checks := [0, 1, 0] } (holding 6 10) lockedSet
    ((lookup 2 240 s).1.cache.slot 2 false).valid = false ∧ ((lookup 2 240 s).1.cache.slot 2 false).tag = some 2 ∧
      (lookup 2 240 s).2 = .miss ∧
      (lookup 2 240 s).1.diag.capture.map (·.report) =
        some { kind := .distParity, sequence := some 240, link := none, item := some (.dist 2) } := by
  decide +kernel

/-- Table 4-5: DIST_DROP(2) is refused; DIST_CLEAR spares the locked slot. -/
theorem test_distDrop_refused :
    outcome (fun s => ((s.cache.slot 2 false).valid, s.diag.capture.map (·.report))) (.distDrop [2]) lockedSet =
      some (true, some (itemFault .requestRefused (.request 0x271 (some 2)))) := by
  decide +kernel

theorem test_distClear_spares_locked :
    outcome (fun s => ((s.cache.slot 2 false).tag, (s.cache.slot 2 true).tag)) (.distClear []) lockedSet =
      some (some 2, none) := by
  decide +kernel

/-- R80: level 3 is taken as 2, bit 2 is protect, bits 3 and 4 the ways. -/
theorem test_distLock_fields :
    outcome (fun s => (s.cache.lockLevel, s.cache.protect, s.cache.disableWay0, s.cache.disableWay1)) (.distLock [0x0B]) inRun =
      some (2, false, true, false) := by
  decide +kernel

/-- Table 4-4 at 250 ms, and R71 after the third send. -/
theorem test_requestTimerExpiry :
    let s := fun sends => { inRun with cache := { resetCache with request := some { id := 1, sends := sends, timer := 249 } } }
    outcome (fun s => (s.cache.request, s.cPort.distRequest)) .requestTimerExpiry (s 1) =
        some (some { id := 1, sends := 2, timer := 0 }, some 1) ∧
      outcome (fun s => (s.cache.request, s.cache.failed, s.diag.capture.map (·.report))) .requestTimerExpiry (s 3) =
        some (none, [1], some (itemFault .distUnavailable (.distCause 1 .unanswered))) := by
  decide +kernel

/-! ## Diagnostic unit -/

/-- Table 9-6 before step 7: LINK_DOWN (bit 5), BUILD_OVERRUN (bit 9) and TABLE_FULL (bit 10), the record filled. -/
def burst : State :=
  { inRun with diag :=
      { summary := 0x620#14, capture := some { report := linkFault .linkDown .left none, further := true }
        notices := 0x34#8, mask := 0x20#8 } }

/-- Table 9-6, step 7. -/
theorem test_clearFaults :
    outcome (fun s => (s.diag.summary, s.diag.capture)) (.clearFaults [0x02, 0x20, 1]) burst = some (0x400#14, none) := by
  decide +kernel

/-- Table 9-6, step 8. -/
theorem test_clearNotices : outcome (·.diag.notices) (.clearNotices [0x14]) burst = some 0x20#8 := by decide +kernel

/-- Table 9-6, step 10: FAULT_CAPTURED queued, DIST_MISS unmasked. -/
theorem test_noticeMask_merges :
    outcome (·.cPort.notice) (.noticeMask [0])
      { inRun with diag := { burst.diag with notices := 0x24#8 }, cPort := { inRun.cPort with notice := some 0x04#8 } } =
      some (some 0x24#8) := by
  decide +kernel

/-- 10.4: a RELEASING entry's reply, 25 ms left. -/
theorem test_diagReadTrackEntry_reply :
    outcome (fun s => s.cPort.diagReply.map fun r => r.bytes.take 22) (.diagReadTrackEntry [0, 0, 0, 0])
      (withTracks [{ entry 12 .oncoming 1500 with age := 45, life := .releasing 25 }] inRun) =
      some (some [0, 0, 0, 0, 0, 12, 0, 0x00, 0xB4, 0x01, 0x04, 0, 40, 0x05, 0xDC, 90, 1, 0, 45, 0, 25, 0]) := by
  decide +kernel

/-- R134: slot 6 is answered EMPTY. -/
theorem test_diagReadFrameBlock_empty :
    outcome (fun s => s.cPort.diagReply.map fun r => r.bytes.take 5) (.diagReadFrameBlock [1, 6, 0, 0]) inRun =
      some (some [1, 6, 0, 0, 1]) := by
  decide +kernel

/-- R134, 10.4: block 0 of slot 0 is the LIMP frame's, newest, sequence 0. -/
theorem test_diagBlockReadDone_reply :
    outcome (fun s => s.cPort.diagReply.map fun r => (r.bytes.take 10, r.bytes.length)) .diagBlockReadDone
      (after (.diagReadFrameBlock [1, 0, 0, 0]) inRun) = some (some ([1, 0, 0, 0, 0, 1, 0, 0, 0, 0], 48)) := by
  decide +kernel

/-- 10.4: LINK_DOWN is order 6, the link L, no item, further 1. -/
theorem test_diagReadCaptureRecord_reply :
    outcome (fun s => s.cPort.diagReply.map fun r => r.bytes.take 14) (.diagReadCaptureRecord [2, 0, 0, 0]) burst =
      some (some [2, 0, 0, 0, 0, 6, 2, 0, 0, 0, 0, 0, 0, 1]) := by
  decide +kernel

/-- R81, 10.4: set 2 way 0 of Section 4.10. -/
theorem test_diagReadCacheSlot_reply :
    outcome (fun s => s.cPort.diagReply.map fun r => r.bytes.take 11) (.diagReadCacheSlot [3, 2, 0, 0]) lockedSet =
      some (some [3, 2, 0, 0, 0, 1, 2, 1, 0, 0, 0]) := by
  decide +kernel

/-- R81, 10.4: the count, then id and outcome, newest first. -/
theorem test_diagReadLookupHistory_reply :
    outcome (fun s => s.cPort.diagReply.map fun r => r.bytes.take 11) (.diagReadLookupHistory [4, 0, 0, 0])
      { inRun with cache := { resetCache with history := [{ id := 1, outcome := .hit }, { id := 7, outcome := .miss }] } } =
      some (some [4, 0, 0, 0, 0, 2, 1, 0, 7, 1, 0]) := by
  decide +kernel

/-! ## Calibration, operating state, ports -/

/-- R179: t_prev (id 7) of 4000 is clamped to 3000 with CAL_CLAMPED (bit 6). -/
theorem test_calSet_clamps :
    outcome (fun s => (s.working.get .tPrev, s.diag.notices)) (.calSet [7, 0x0F, 0xA0]) State.reset = some (3000, 64#8) := by
  decide +kernel

/-- Table 10-8: adb_off 900 with adb_on 800 fails check 2, parameter 15. -/
theorem test_calDone_refused :
    outcome (fun s => (s.operating, s.diag.capture.map (·.report))) (.calDone [])
      { State.reset with working := defaultCal.put .adbOff 900 } =
      some (.config, some (itemFault .calRefused (.param .adbOff))) := by
  decide +kernel

/-- R181: v 49 is accepted, v 50 refused. -/
theorem test_configEnter :
    outcome (·.operating) (.configEnter []) (fresh (motionRecord 49 0) inRun) = some .config ∧
      outcome (fun s => (s.operating, s.diag.summary)) (.configEnter []) (fresh (motionRecord 50 0) inRun) =
        some (.run, 0x1000#14) := by
  decide +kernel

/-- R182: RUN with a committed set, CONFIG without one. -/
theorem test_restart_state :
    outcome (fun s => (s.operating, s.builder.timer, s.tracks.length)) (.restart []) (withTracks fullTable inRun) =
        some (.run, some 0, 0) ∧
      outcome (fun s => (s.operating, s.diag.notices)) (.restart []) { State.reset with diag := { resetDiag with notices := 64#8 } } =
        some (.config, 0#8) := by
  decide +kernel

/-- Table 10-5: the STATUS of power-on reset. -/
theorem test_powerOnReset_status :
    outcome (fun s => s.cPort.sending.map fun m => (m.identifier, m.data)) .powerOnReset (bothUp inRun) =
      some (some (0x280, [0, 0, 0, 1, 0, 1, 0, 3, 1, 0, 0, 0, 0, 0, 0, 0, 0, 0, 0, 0])) := by
  decide +kernel

/-- R175. -/
theorem test_busOff_and_recovery :
    outcome (fun s => (s.cPort.sending, s.cPort.distRequest)) (.busOff .cPort) (placeDistRequest 3 State.reset) =
        some (none, none) ∧
      outcome (fun s => s.cPort.sending.map (·.data)) (.busOffRecovery .cPort)
        { State.reset with cPort := { resetCPort with busOff := true, sending := none, distRequest := some 3 } } =
        some (some [3]) := by
  decide +kernel

/-- R174: after the STATUS, the NOTICE goes before the DIST_REQUEST. -/
theorem test_transmissionEnd_next :
    outcome (fun s => (s.cPort.sending.map (·.identifier), s.cPort.distRequest)) (.transmissionEnd .cPort)
      { State.reset with cPort := { resetCPort with notice := some 4#8, distRequest := some 3 } } =
      some (some 0x281, some 3) := by
  decide +kernel

/-- Table 7-6: LINK-R's access completes with COMMIT, LINK-L and DIAG waiting, and DIAG is granted. -/
theorem test_arbiter_cycle :
    let s : State := { inRun with store := { inRun.store with
      busy := some { requester := .linkR, access := .headerRead 0, wanted := true, found := none }, lastGranted := .linkR
      waitCommit := some .headerWrite, waitLinkL := some (.headerRead 0), waitDiag := some (.diagRead 0 .left 0) } }
    (releasePort s).store.busy.map (·.requester) = some .diag ∧ (releasePort s).store.waitCommit = some .headerWrite := by
  decide +kernel

/-- Table 2-9, builds 2, 3 and 4, with level_offset 50. -/
theorem test_levelling :
    let c := defaultCal.put .levelOffset 50
    newLevel c { hotClimb with motion := some { motionRecord 0 0 with pCh := 120 } } = -70 ∧
      newLevel c { hotClimb with motion := some { motionRecord 0 0 with pCh := -400 } } = 300 ∧
      newLevel c { hotClimb with presence := .stale, previous := { hotClimb.previous with level := 300 } } = 300 := by
  decide +kernel

/-- Table 2-6: κ 5000, v 2200, previous bend 440. -/
theorem test_bend :
    newBend defaultCal { hotClimb with kappa := 5000, previous := { hotClimb.previous with bend := 440 } } = 473 := by
  decide +kernel

/-! ## Time -/

/-- Table 1-8 from 45 ms to 46 ms: the age goes on, the release timer falls. -/
theorem test_millisecond_release :
    (tick (withTracks [{ entry 12 .oncoming 0 with age := 45, life := .releasing 25 }] inRun)).tracks.map
      (fun e => (e.age, e.life)) = [(46, .releasing 24)] := by
  decide +kernel

/-- R84: the build timer's expiry is due at build_period 20. -/
theorem test_millisecond_build_due :
    (tick { inRun with builder := { inRun.builder with timer := some 19 } }).pending = [.buildTimerExpiry] := by
  decide +kernel

/-! ## Witnesses: a state and operands that meet a statement's hypotheses, at boundary values, clause by clause -/

/-- Every timer `near` ms short of its limit, motion FRESH. -/
def clockState (near : Nat) : State :=
  let l := { linkUp with
    statusTimer := some (300 - near)
    transfer := some { tag := 0, slot := 0, sequence := 0, map := [], same := true, step := .header, retries := 0
                       replyTimer := some (5 - near) } }
  { withTracks [{ entry 12 .oncoming 0 with age := 150 - near }] inRun with
    vision := { present := true, timer := some (200 - near) }
    motion := { resetMotion with record := some (motionRecord 0 0), presence := .fresh, timer := some (100 - near) }
    builder := { inRun.builder with timer := some (20 - near) }
    cache := { resetCache with request := some { id := 1, sends := 1, timer := 250 - near } }
    selector := { resetSelector with request := .flash, flash := .active (3000 - near) }
    linkL := l, linkR := l }

/-- The same with motion STALE. -/
def staleState (near : Nat) : State :=
  { clockState near with motion := { resetMotion with record := some (motionRecord 0 0), presence := .stale, timer := some (500 - near) } }

/-- The same with an entry whose release timer has `near` ms left, and a lane record. -/
def releasingState (near : Nat) : State :=
  let s := withTracks [{ entry 13 .sign 0 with life := .releasing near }] (clockState near)
  { s with motion := { s.motion with lane := some { kappa := 0, conf := 90, age := 150 - near } } }

theorem witness_FrontCommandIsCarriedOut :
    ({ inRun with pending := [.visionLoss, .flashExpiry] } : State).pending = .visionLoss :: [.flashExpiry] ∧
      completes { inRun with pending := [.visionLoss, .flashExpiry] } = true := by
  decide +kernel

theorem witness_EmptyQueuePassesOneMillisecond : ∀ near ∈ [1, 2],
    (clockState near).pending = [] ∧ (clockState near).vision.timer = some (200 - near) ∧
      (clockState near).motion.timer = some (100 - near) ∧ (clockState near).motion.presence = .fresh ∧
      (staleState near).pending = [] ∧ (staleState near).motion.timer = some (500 - near) ∧
      (staleState near).motion.presence = .stale ∧ (clockState near).builder.timer = some (20 - near) ∧
      (committedCal (clockState near)).nat .buildPeriod = 20 ∧
      (clockState near).cache.request.map (·.timer) = some (250 - near) ∧
      (clockState near).selector.flash = .active (3000 - near) ∧ (activeCal (clockState near)).nat .flashMax = 3000 ∧
      (clockState near).linkL.statusTimer = some (300 - near) ∧ (clockState near).linkR.replyTimer = some (5 - near) ∧
      (clockState near).operating = .run ∧ (clockState near).tracks.map (·.age) = [150 - near] ∧
      (activeCal (clockState near)).nat .trackExpiry = 150 ∧ (releasingState near).pending = [] ∧
      (releasingState near).operating = .run ∧ (releasingState near).tracks.map (·.life) = [.releasing near] ∧
      (releasingState near).motion.lane.map (·.age) = some (150 - near) ∧
      (tick (releasingState near)).motion.lane.map (·.age) = some (151 - near) := by
  decide +kernel

/-- A diagnostic read of slot `i`'s last block: its request waits at a busy port, or its access is under way. -/
def diagAsks (underWay : Bool) (i : Fin 6) (s : State) : State :=
  let read : PortAccess := .diagRead i .right 4
  { s with
    reader := some [1, putByte i.val, 1, 4]
    store :=
      if underWay then
        { s.store with busy := some { requester := .diag, access := read, wanted := true, found := none } }
      else { s.store with waitDiag := some read } }

/-- The installation's cases: no diagnostic read, one of slot 0 and one of another slot, under way and waiting. -/
theorem witness_PortInstalled :
    (∀ s ∈ [inRun, State.reset], s.store.accessOf .diag = none ∧ s.store.waitDiag = none) ∧
      ∀ i ∈ ([0, 1, 5] : List (Fin 6)),
        (diagAsks true i inRun).store.accessOf .diag =
            some { requester := .diag, access := .diagRead i .right 4, wanted := true, found := none } ∧
          (diagAsks false i inRun).store.accessOf .diag = none ∧
          (diagAsks false i inRun).store.waitDiag = some (.diagRead i .right 4) ∧ (diagAsks false i inRun).reader.isSome = true ∧
          (diagAsks true i inRun).cPort.busOff = false := by
  decide +kernel

theorem witness_RestartResetsEachBlock :
    ([] : List Byte).length = 0 ∧ inRun.cPort.busOff = false ∧ inRun.committed.isSome = true ∧
      State.reset.cPort.busOff = false ∧ State.reset.committed = none ∧ inRun.store.waitDiag = none ∧
      inRun.store.accessOf .diag = none := by
  decide +kernel

theorem witness_ConfigEnterAcceptedOrRefused :
    let s := fresh (motionRecord 49 0) inRun
    (([] : List Byte).length = 0 ∧ s.cPort.busOff = false ∧ s.operating = .run ∧ s.motion.presence = .fresh ∧
      ∃ r ∈ s.motion.record, r.v < 50) ∧
    ¬(∃ r ∈ (fresh (motionRecord 50 0) inRun).motion.record, r.v < 50) ∧ (fresh (motionRecord 50 0) inRun).cPort.busOff = false := by
  decide +kernel

theorem witness_CalSetWritesWorkingSet :
    (∀ b ∈ ([1, 49, 0, 50] : List Byte), [b, 0, 0].length = 3) ∧ State.reset.cPort.busOff = false ∧
      byteAt [1, 0, 0] 0 = Param.confMin.id ∧ byteAt [49, 0, 0] 0 = Param.deadLimit.id ∧ State.reset.operating = .config ∧
      inRun.operating = .run ∧ inRun.cPort.busOff = false ∧ byteAt [0, 0, 0] 0 = 0 ∧ 49 < byteAt [50, 0, 0] 0 := by
  decide +kernel

/-- The checks of Table 10-8, as the statement spells them. -/
def passes (c : CalSet) : Bool :=
  let v := c.get
  decide (v .rowEdge0 < v .rowEdge1 ∧ v .rowEdge1 < v .rowEdge2 ∧ v .rowEdge2 < v .rowEdgeTop ∧ v .adbOff < v .adbOn ∧
    v .yellowBand < v .budget ∧ v .budgetMin ≤ v .budget ∧ v .coastStart < v .trackExpiry ∧
    (v .bendStep ≤ v .bendMax ∨ v .bendMax = 0))

theorem witness_CalDoneCommitsOrRefuses :
    ([] : List Byte).length = 0 ∧ State.reset.cPort.busOff = false ∧ State.reset.operating = .config ∧
      passes defaultCal = true ∧ passes (defaultCal.put .adbOff 799) = true ∧ passes (defaultCal.put .budgetMin 24000) = true ∧
      passes (defaultCal.put .bendMax 0) = true ∧
      ([(.rowEdge1, -60), (.rowEdge2, 40), (.rowEdgeTop, 140), (.adbOff, 800), (.yellowBand, 24000), (.budgetMin, 24001),
        (.coastStart, 150), (.bendMax, 39)] : List (Param × Int)).all (fun p => !passes (defaultCal.put p.1 p.2)) = true ∧
      inRun.operating = .run ∧ inRun.cPort.busOff = false := by
  decide +kernel

theorem witness_OnlyFourCommandsMoveOperatingState :
    outcome (·.operating) (.calDone []) State.reset = some .run ∧
      outcome (·.operating) (.configEnter []) (fresh (motionRecord 0 0) inRun) = some .config ∧
      outcome (·.operating) (.restart []) { State.reset with committed := some defaultCal } = some .run ∧
      outcome (·.operating) .powerOnReset inRun = some .config := by
  decide +kernel

theorem witness_WrongLengthAndBusOffAreNotAccepted :
    receivedFrame (.trackEnd [1, 2]) = some (.vPort, 0x1C1, [1, 2]) ∧ (vPortOff inRun).portOff .vPort = true ∧
      inRun.portOff .vPort = false ∧ ¬LengthFits 0x1C1 [1, 2] := by
  refine ⟨rfl, rfl, rfl, ?_⟩
  rintro ⟨lengths, h, h'⟩
  simp [tableLengths] at h
  subst h
  simp at h'

theorem witness_TransmitterBeginsLowestIdentifier :
    let free : State := { inRun with cPort := { resetCPort with sending := none } }
    (vPortOff inRun).vPort.busOff = true ∧ inRun.vPort.busOff = false ∧ inRun.vPort.sending = none ∧
      ({ inRun with vPort := { resetVPort with litmap := some (litMapOf limpFrame) } } : State).vPort.litmap.isSome = true ∧
      inRun.cPort.sending.isSome = true ∧ free.cPort.busOff = false ∧ free.cPort.sending = none ∧
      (placeStatus resetStatus free).cPort.status.isSome = true ∧ (makeNotice free).cPort.status = none ∧
      (makeNotice free).cPort.notice.isSome = true ∧ (placeDistRequest 31 free).cPort.notice = none ∧
      (placeDistRequest 31 free).cPort.distRequest = some 31 ∧ (placeReply .empty free).cPort.distRequest = none ∧
      (placeReply .empty free).cPort.diagReply.isSome = true ∧ free.cPort.diagReply = none ∧
      ({ inRun with vPort := { resetVPort with sending := some { identifier := 0x1C8, data := [] } } } : State).vPort.sending.isSome
        = true := by
  decide +kernel

/-- The layouts' premises at the ends of their ranges. -/
theorem witness_layouts :
    (let m := litMapOf { limpFrame with header := { limpFrame.header with sequence := 65535 } }
     m.sequence ≤ 65535 ∧ m.maps.length = 6 ∧ ∀ marks ∈ m.maps, marks.length = 40) ∧
    (let e := { entry 254 .sign 5000 with thetaL := -3000, thetaR := 3000, phiT := -1000, conf := 100, age := 65535 }
     1 ≤ e.id ∧ e.id ≤ 254 ∧ -3000 ≤ e.thetaL ∧ e.thetaL ≤ e.thetaR ∧ e.thetaR ≤ 3000 ∧ -1000 ≤ e.phiT ∧ e.phiT ≤ 1000 ∧
       e.dist ≤ 5000 ∧ e.conf ≤ 100 ∧ e.age ≤ 65535) ∧
    (∀ q ∈ [0, 65535], q ≤ 65535) ∧ (List.replicate 24 255).length = 24 ∧ (∀ v ∈ List.replicate 24 255, v ≤ 255) ∧
    ([1, 5, 1, 4] : List Byte).length = 4 ∧ (List.replicate 8 ({ id := 31, outcome := .miss } : HistoryEntry)).length ≤ 8 := by
  decide +kernel

theorem witness_statusLayout : FitsSigned16 (-32768) ∧ FitsSigned16 32767 ∧ (resetStatus.header.sequence ≤ 65535) := by
  unfold FitsSigned16
  decide +kernel

theorem witness_BusOffLosesTheOutboundQueue :
    inRun.vPort.busOff = false ∧ inRun.cPort.busOff = false ∧ (vPortOff inRun).vPort.busOff = true ∧
      (cPortOff inRun).cPort.busOff = true := by
  decide +kernel

theorem witness_TracksTakenRecordByRecord :
    inRun.vPort.busOff = false ∧ inRun.operating = .run ∧ State.reset.vPort.busOff = false ∧ State.reset.operating = .config ∧
      LengthFits 0x1C0 (1 :: List.replicate 15 0) ∧ LengthFits 0x1C0 (6 :: List.replicate 63 0) ∧
      (tracksRecords (6 :: List.replicate 63 0)).map (·.1) = [0, 1, 2, 3, 4, 5] ∧ ([0x80] : List Byte)[0]? = some 0x80 :=
  ⟨rfl, rfl, rfl, rfl, ⟨[16], by decide, by decide⟩, ⟨[64], by decide, by decide⟩, by decide +kernel, rfl⟩

/-- A record as received, of an id, class code and distance. -/
def trackRecord (id code dist : Nat) : TrackRecord :=
  { id := id, classCode := code, thetaL := 180, thetaR := 260, phiT := 40, dist := dist, conf := 90 }

/-- A record is well formed, as the statement spells it. -/
def recordOk (r : TrackRecord) : Bool := decide (r.id ≠ 0 ∧ r.id ≠ 255 ∧ r.classCode ≤ 3 ∧ r.thetaL ≤ r.thetaR)

theorem witness_TrackRecordUpdatesAppendsOrCompetes :
    recordOk (trackRecord 0 0 0) = false ∧ recordOk (trackRecord 255 0 0) = false ∧ recordOk (trackRecord 1 4 0) = false ∧
      recordOk { trackRecord 1 0 0 with thetaL := 261 } = false ∧ recordOk (trackRecord 254 3 0) = true ∧
      recordOk { trackRecord 1 0 0 with thetaL := 260 } = true ∧ recordOk (trackRecord 40 0 0) = true ∧
      (∃ old ∈ fullTable, old.id = 40) ∧ (∀ old ∈ fullTable.drop 1, old.id ≠ 254) ∧ (fullTable.drop 1).length = 23 ∧
      (∀ old ∈ fullTable, old.id ≠ 254) ∧ fullTable.length = 24 ∧ victim fullTable = some (entry 41 .sign 0) ∧
      (entry 41 .sign 0).cls.priority < (trackRecord 254 3 0).entry.cls.priority ∧
      (trackRecord 254 2 300).entry.cls = (entry 41 .sign 0).cls ∧ (trackRecord 254 2 0).entry.dist = 0 := by
  decide +kernel

theorem witness_VictimIsLowestFarthestOldest :
    fullTable[22]? = some (entry 41 .sign 0) ∧ victim fullTable = some (entry 41 .sign 0) ∧
      fullTable[23]? = some (entry 42 .sign 0) ∧ victim fullTable ≠ some (entry 42 .sign 0) := by
  decide +kernel

theorem witness_TrackEndReleasesOrRemoves :
    let s := withTracks [entry 1 .sign 0, { entry 254 .sign 0 with life := .releasing 1 }] inRun
    let never := { s with committed := some (defaultCal.put .releaseHold 0) }
    (∀ b ∈ ([0, 1, 2, 254, 255] : List Byte), [b].length = 1) ∧ s.vPort.busOff = false ∧ State.reset.operating = .config ∧
      s.operating = .run ∧ byteAt [0] 0 = 0 ∧ byteAt [255] 0 = 255 ∧ (∀ e ∈ s.tracks, e.id ≠ byteAt [2] 0) ∧
      (s.tracks.map (·.id)).Nodup ∧ s.tracks.map (·.id) = [byteAt [1] 0, byteAt [254] 0] ∧
      s.tracks.map (·.life) = [.live, .releasing 1] ∧ 1 ≤ (activeCal s).nat .releaseHold ∧
      (activeCal never).nat .releaseHold = 0 ∧ never.operating = .run := by
  decide +kernel

theorem witness_TrackTimersRemoveTheirEntry :
    let s := withTracks [entry 1 .sign 0, { entry 254 .sign 0 with life := .releasing 1 }] inRun
    (s.tracks.map (·.id)).Nodup ∧ (∃ e ∈ s.tracks, e.id = 254 ∧ e.life = .releasing 1) ∧ (∃ e ∈ s.tracks, e.id = 1) ∧
      ∀ e ∈ s.tracks, e.id ≠ 2 := by
  decide +kernel

theorem witness_LaneAndSceneReplaceTheirRecords :
    ([0x80, 0, 255] : List Byte).length = 3 ∧ inRun.vPort.busOff = false := by decide

theorem witness_MotionRepeatedOrAccepted :
    let data : List Byte := [0, 0, 0, 0, 0, 0, 0, 0, 15, 0, 0, 0]
    data.length = 12 ∧ inRun.cPort.busOff = false ∧ (∃ r ∈ (fresh (motionRecord 0 15) inRun).motion.record, r.alive = byteAt data 8 % 16) ∧
      (∀ r ∈ (fresh (motionRecord 0 14) inRun).motion.record, r.alive ≠ byteAt data 8 % 16) ∧
      (∀ r ∈ inRun.motion.record, r.alive ≠ byteAt data 8 % 16) := by
  decide +kernel

/-- The cases of Table 2-3: a lane record aged 149 at the least confidence, one aged 150, and v 200 and 199 without one. -/
theorem witness_curvature :
    let lane := fun age => ({ kappa := 5000, conf := 60, age := age } : LaneRecord)
    let u := fun v age => { (fresh (motionRecord v 0) inRun).motion with lane := some (lane age) }
    ((u 200 149).lane = some (lane 149) ∧ (lane 149).age < 150 ∧ 60 ≤ (lane 149).conf) ∧
      ¬(∃ l ∈ (u 200 150).lane, l.age < 150 ∧ 60 ≤ l.conf) ∧ (u 200 150).presence = .fresh ∧
      (∀ m ∈ (u 200 150).record, 200 ≤ m.v) ∧ (u 200 150).record.isSome = true ∧ (∀ m ∈ (u 199 150).record, m.v < 200) ∧
      ¬(∃ l ∈ (u 200 149).lane, l.age < 150 ∧ 61 ≤ l.conf) ∧ resetMotion.presence ≠ .fresh := by
  decide +kernel

theorem witness_PresenceTimerThresholds :
    (clockState 1).motion.timer = some 99 ∧ (clockState 1).motion.presence = .fresh ∧ (staleState 1).motion.timer = some 499 := by
  decide +kernel

theorem witness_DriverRequestAndFlash :
    ([4] : List Byte).length = 1 ∧ inRun.cPort.busOff = false ∧ byteAt [0] 0 = (DriverRequest.steady .off).code ∧
      byteAt [3] 0 = (DriverRequest.steady .high).code ∧ byteAt [4] 0 = 4 ∧ 4 < byteAt [5] 0 ∧
      (clockState 1).selector.flash = .active 2999 := by
  decide +kernel

theorem witness_VisionLossEmptiesTheTrackTable : (clockState 1).vision.timer = some 199 := by decide +kernel

/-- AUTO with every condition clear but those of the arguments. -/
def auto (presence : MotionPresence) (present : Bool) (gate : SpeedGate) (scene : SceneRecord) : State :=
  { inRun with
    motion := { resetMotion with presence := presence }
    vision := { present := present, timer := none }
    selector := { resetSelector with request := .steady .auto, gate := gate, scene := scene } }

/-- The scene with a fog flag and an ambient. -/
def sceneOf (fog : Bool) (lux : Nat) : SceneRecord := { streetLit := false, fog := fog, rain := false, ambient := some lux }

theorem witness_SelectionFollowsDriverThenConditions :
    inRun.selector.request = .steady .low ∧ (clockState 1).selector.request = .flash ∧
      (auto .lost true .opened (sceneOf false 0)).motion.presence = .lost ∧
      (auto .stale false .opened (sceneOf false 0)).vision.present = false ∧
      (auto .stale true .closed (sceneOf false 0)).selector.gate = .closed ∧
      (∃ lux ∈ (auto .fresh true .opened (sceneOf false 1000)).selector.scene.ambient,
        (activeCal (auto .fresh true .opened (sceneOf false 1000))).nat .dayLux ≤ lux) ∧
      ¬(∃ lux ∈ (auto .fresh true .opened (sceneOf true 999)).selector.scene.ambient,
        (activeCal (auto .fresh true .opened (sceneOf true 999))).nat .dayLux ≤ lux) ∧
      (auto .fresh true .opened (sceneOf true 999)).selector.scene.fog = true ∧
      (selection (auto .fresh true .opened (sceneOf false 999))).mode.shading = true := by
  decide +kernel

theorem witness_DistDataFillsTheBuffer :
    (∀ p ∈ ([2, 1, 0] : List Byte), (p :: 31 :: List.replicate 62 0).length = 64) ∧ openFill.cPort.busOff = false ∧
      1 < byteAt (2 :: 31 :: List.replicate 62 0) 0 ∧ byteAt (1 :: 32 :: List.replicate 62 0) 0 ≤ 1 ∧
      31 < byteAt (1 :: 32 :: List.replicate 62 0) 1 ∧ byteAt (0 :: 31 :: List.replicate 62 0) 1 ≤ 31 ∧
      byteAt (1 :: 1 :: List.replicate 62 0) 0 = 1 ∧
      (∃ f ∈ openFill.cache.fill, f.id = byteAt (1 :: 1 :: List.replicate 62 0) 1) ∧
      ∀ f ∈ openFill.cache.fill, f.id ≠ byteAt (1 :: 31 :: List.replicate 62 0) 1 := by
  decide +kernel

/-- Set 3 with an id in each way, under a lock level and way disables. -/
def setThree (level : Nat) (off0 off1 : Bool) (way0 way1 : CacheSlot) : State :=
  let s := withSet 31 way0 way1 inRun
  { s with cache := { s.cache with lockLevel := level, disableWay0 := off0, disableWay1 := off1 } }

theorem cacheInv_of_check {s : State}
    (h : (∀ i j : Fin 8, ∀ d ∈ (s.cache.slots.get i).tag, (s.cache.slots.get j).tag = some d → i = j) ∧
      (∀ i : Fin 8, ((s.cache.slots.get i).valid = true → (s.cache.slots.get i).tag.isSome = true) ∧
        ((s.cache.slots.get i).valid = false → (s.cache.slots.get i).tag.isSome = true →
          lockedUnder s.cache.lockLevel (wayOfIndex i) = true) ∧
        (∀ d ∈ (s.cache.slots.get i).tag, d ≤ 31 ∧ d % 4 = i.val / 2) ∧ (s.cache.slots.get i).values.length = 120))
    (h' : s.cache.lockLevel ≤ 2 ∧ s.cache.history.length ≤ 8 ∧ s.cache.failed.Nodup ∧ (∀ d ∈ s.cache.failed, d ≤ 31) ∧
      (∀ r ∈ s.cache.request, 1 ≤ r.sends ∧ r.sends ≤ 3 ∧ r.timer < 250) ∧
      (∀ f ∈ s.cache.fill, f.id ≤ 31 ∧ f.values.length = 60)) : CacheInv s :=
  ⟨h.1, h.2, h'⟩

theorem witness_FillTakesMatchVictimOrNoRoom :
    (let s := setThree 0 false false (holding 31 1) (holding 3 1)
     CacheInv s ∧ s.cache.disabled false = false ∧ (s.cache.slot 31 false).tag = some 31) ∧
    (let s := setThree 0 false false resetCacheSlot resetCacheSlot
     CacheInv s ∧ s.cache.candidate false = true ∧ (s.cache.slot 31 false).valid = false) ∧
    (let s := setThree 0 false false (holding 7 1) resetCacheSlot
     CacheInv s ∧ s.cache.candidate true = true ∧ (s.cache.slot 31 true).valid = false ∧ (s.cache.slot 31 false).valid = true) ∧
    (let s := setThree 1 false false (holding 7 1) (holding 3 1)
     CacheInv s ∧ s.cache.candidate true = true ∧ (s.cache.slot 31 true).valid = true ∧ s.cache.candidate false = false) ∧
    (let s := setThree 0 false false (holding 7 1) (holding 3 1)
     CacheInv s ∧ s.cache.candidate false = true ∧ s.cache.candidate true = true ∧ (s.cache.slot 31 false).tag ≠ some 31 ∧
       (s.cache.slot 31 true).tag ≠ some 31) ∧
    (let s := setThree 2 false false (holding 7 1) (holding 3 1)
     CacheInv s ∧ s.cache.candidate false = false ∧ s.cache.candidate true = false) := by
  refine ⟨?_, ?_, ?_, ?_, ?_, ?_⟩ <;>
    exact ⟨cacheInv_of_check (by decide +kernel) (by decide +kernel), by decide +kernel⟩

theorem witness_DropClearAndLock :
    lockedSet.cPort.busOff = false ∧ ([2] : List Byte).length = 1 ∧ 31 < byteAt [32] 0 ∧ byteAt [31] 0 ≤ 31 ∧
      (lockedSet.cache.slot (byteAt [31] 0) false).tag ≠ some 31 ∧ (lockedSet.cache.slot (byteAt [31] 0) true).tag ≠ some 31 ∧
      CacheInv lockedSet ∧ (lockedSet.cache.slot 2 false).tag = some 2 ∧ lockedSet.cache.locked false = true ∧
      lockedSet.cache.protect = true ∧ (lockedSet.cache.slot 6 true).tag = some 6 ∧ lockedSet.cache.locked true = false ∧
      ([] : List Byte).length = 0 := by
  refine ⟨rfl, rfl, by decide, by decide, by decide +kernel, by decide +kernel,
    cacheInv_of_check (by decide +kernel) (by decide +kernel), ?_⟩
  decide +kernel

theorem witness_RequestTimerSendsAgainOrGivesUp :
    ({ inRun with cache := { resetCache with request := some { id := 31, sends := 2, timer := 249 } } } : State).cache.request =
        some { id := 31, sends := 2, timer := 249 } ∧
      ({ inRun with cache := { resetCache with request := some { id := 31, sends := 3, timer := 249 } } } : State).cache.request =
        some { id := 31, sends := 3, timer := 249 } := by
  decide +kernel

theorem witness_LookupHitsOrMisses :
    (CacheInv lockedSet ∧ lockedSet.cache.disabled false = false ∧ (lockedSet.cache.slot 2 false).valid = true ∧
      (lockedSet.cache.slot 2 false).tag = some 2 ∧
      rowChecks (lockedSet.cache.slot 2 false).values = (lockedSet.cache.slot 2 false).checks) ∧
    (let s := withSet 2 { holding 2 10 with checks := [0, 1, 0] } (holding 6 10) lockedSet
     CacheInv s ∧ rowChecks (s.cache.slot 2 false).values ≠ (s.cache.slot 2 false).checks) ∧
    (lockedSet.cache.slot 31 false).valid = false ∧ (lockedSet.cache.slot 31 true).valid = false ∧
    (1 ∉ openFill.cache.failed ∧ ∃ r ∈ openFill.cache.request, r.id = 1) ∧
    (5 ∉ openFill.cache.failed ∧ ∀ r ∈ openFill.cache.request, r.id ≠ 5) ∧
    31 ∈ failedAdd 31 openFill.cache.failed := by
  refine ⟨⟨cacheInv_of_check (by decide +kernel) (by decide +kernel), by decide +kernel⟩,
    ⟨cacheInv_of_check (by decide +kernel) (by decide +kernel), by decide +kernel⟩, ?_⟩
  decide +kernel

theorem witness_BuildTimerStartsOrSkips :
    inRun.builder.timer = some 0 ∧ computing.builder.timer = some 0 ∧ computing.builder.phase.build = some hotBuild ∧
      inRun.builder.phase.build = none ∧ (inRun.store.slot 1).state = .free ∧ (∀ j, j < 1 → (inRun.store.slot j).state ≠ .free) ∧
      modeDist (selection inRun).mode = none ∧ modeDist (selection countryBuild).mode = some .modeDistCountry := by
  decide +kernel

theorem noDiagAtIdlePort_of_none {st : FrameStore} (h : ∀ r, st.waiting r = none) : NoDiagAtIdlePort st :=
  Or.inr fun r a ha => by rw [h r] at ha; cases ha

theorem witness_ComputeCompleteFixesTheFrame :
    computing.builder.phase = .computing hotBuild ∧ computing.store.waitCommit = none ∧ computing.store.accessOf .commit = none ∧
      NoDiagAtIdlePort computing.store ∧ computing.diag.capture = none ∧
      ({ computing with diag := burst.diag } : State).diag.capture.isSome = true :=
  ⟨rfl, rfl, rfl, noDiagAtIdlePort_of_none (fun r => by cases r <;> rfl), rfl, rfl⟩

/-- The capture's cases: a lamp at 125 °C is RED and one at 118 °C YELLOW, so with the temperatures exchanged R alone is RED, and with
both at 125 °C both are (Section 6.11). -/
theorem test_computeComplete_red_right :
    let status := fun t => ({ up := true, temp := some t, dead := [] } : LampSnapshot)
    let s := fun l r =>
      { computing with
        builder :=
          { computing.builder with phase := .computing { hotBuild with snapshot := { hotClimb with lampL := status l, lampR := status r } } } }
    outcome (fun s => s.diag.capture) .computeComplete (s 118 125) =
        some (some { report := { kind := .budgetRed, sequence := some 230, link := some .right, item := none }, further := false }) ∧
      outcome (fun s => s.diag.capture.map fun c => (c.report.link, c.further)) .computeComplete (s 125 125) =
        some (some (some .left, true)) := by
  decide +kernel

theorem witness_CommitBlockWriteStoresItsBlock :
    (committing 9 (.blockWrite .right 4)).builder.phase.frame = some countedFrame ∧
      (committing 9 (.blockWrite .right 4)).store.busy.map (fun w => (w.requester, w.access)) =
        some (.commit, .blockWrite .right 4) ∧
      (committing 9 (.blockWrite .right 4)).store.waitCommit = none := by
  decide +kernel

/-- The store's invariant, with each slot's condition spelled out. -/
theorem storeInv_of_check {s : State}
    (h : (∃ i : Fin 6, (s.store.slot i).newest = true) ∧
      (∀ i j : Fin 6, (s.store.slot i).newest = true → (s.store.slot j).newest = true → i = j) ∧
      (∀ i : Fin 6, if (s.store.slot i).state = .stored then
          (s.store.slot i).sequence.isSome = true ∧ ((s.store.slot i).newest = true ∨ (s.store.slot i).holders ≠ noHolders)
        else (s.store.slot i).newest = false ∧ (s.store.slot i).holders = noHolders ∧ (s.store.slot i).sequence = none) ∧
      (∀ i : Fin 6, (s.store.slot i).state = .building ↔ s.builder.phase.build.map (·.slot) = some i))
    (hl : HoldsAgree s .left) (hr : HoldsAgree s .right) : StoreInv s := by
  refine ⟨h.1, h.2.1, fun i => ?_, h.2.2.2, hl, hr⟩
  have hi := h.2.2.1 i
  unfold FrameSlot.StateOk
  cases hs : (s.store.slot i).state <;> simpa [hs] using hi

theorem storeInv_committing : StoreInv (committing 10 .headerWrite) :=
  storeInv_of_check (by decide +kernel) (by unfold HoldsAgree; decide +kernel) (by unfold HoldsAgree; decide +kernel)

theorem witness_CommitHeaderWriteCompletesTheCommit :
    StoreInv (committing 10 .headerWrite) ∧ (committing 10 .headerWrite).builder.phase.frame = some countedFrame ∧
      (committing 10 .headerWrite).store.busy.map (fun w => (w.requester, w.access)) = some (.commit, .headerWrite) ∧
      (diagAsks false 0 (committing 10 .headerWrite)).store.busy = (committing 10 .headerWrite).store.busy ∧
      (diagAsks false 0 (committing 10 .headerWrite)).store.waitDiag.isSome = true :=
  ⟨storeInv_committing, by decide +kernel, by decide +kernel, by decide +kernel, rfl⟩

theorem defaultCal_inRange : defaultCal.InRange := by unfold CalSet.InRange; decide +kernel

/-- The bend's clauses: a target 473 from 440, from 0, and from 600; presence FRESH and not. -/
theorem witness_BendStepsTowardItsTarget :
    defaultCal.InRange ∧
      (let target := bendTarget defaultCal { hotClimb with kappa := 5000 }
       target = 473 ∧ target - 433 ≤ 40 ∧ 40 < target - 432 ∧ 40 < 514 - target) ∧
      hotClimb.presence = .fresh ∧ hotClimb.motion.isSome = true ∧ ({ hotClimb with presence := .stale } : Snapshot).presence ≠ .fresh :=
  ⟨defaultCal_inRange, by decide +kernel, rfl, rfl, by decide⟩

theorem witness_ZoneCoversWhatItsExtentTouches :
    let t : TrackCopy := { cls := .oncoming, thetaL := 180, thetaR := 260, phiT := 40, dist := 1500, age := 0 }
    defaultCal.InRange ∧ t.thetaL ≤ t.thetaR ∧ (zoneOf defaultCal hotClimb .left t).isSome = true ∧ (26 : Nat) < 40 :=
  ⟨defaultCal_inRange, by decide, by decide +kernel, by decide⟩

theorem witness_StagesOnlyLowerTheBaseValue :
    let snap := { hotClimb with lampL := { up := true, temp := some 125, dead := [119] } }
    let f := buildFrame defaultCal snap (some uniformRows) 230
    let t : TrackCopy := { cls := .oncoming, thetaL := 180, thetaR := 260, phiT := 40, dist := 1500, age := 0 }
    (2 < 3 ∧ 39 < 40) ∧ f.header.mode.shading = true ∧ t ∈ snap.tracks ∧
      (zoneOf defaultCal snap .left t).map (fun z => (z.cL, z.cR, z.rows)) = some (23, 26, [0, 1]) ∧
      2 * 40 + 39 ∈ (snap.lampStatus .left).dead ∧ snap.selection.flash = false ∧ f.header.mode ≠ .low ∧ f.header.mode ≠ .dark ∧
      (buildFrame defaultCal { snap with selection := { mode := .low, reason := .noFallback, flash := false } } none 230).header.mode
        = .low := by
  decide +kernel

theorem witness_LampSumStaysWithinItsBudget :
    defaultCal.InRange ∧ (buildFrame defaultCal hotClimb (some uniformRows) 230).header.clampedL = true ∧
      (buildFrame defaultCal hotClimb (some uniformRows) 230).header.clampedR = false ∧
      (buildFrame defaultCal hotClimb (some uniformRows) 230).header.yellowR = true :=
  ⟨defaultCal_inRange, by decide +kernel, by decide +kernel, by decide +kernel⟩

/-- A port busy with LINK-R, with COMMIT waiting. -/
def busyPort : State :=
  { inRun with store := { inRun.store with
    busy := some { requester := .linkR, access := .headerRead 0, wanted := true, found := none }, lastGranted := .linkR
    waitCommit := some .headerWrite } }

theorem witness_PortGrantsInCycleOrder :
    (inRun.store.busy = none ∧ (∀ q, inRun.store.waiting q = none) ∧ PortAccess.headerWrite.isDiag = false) ∧
      (cycleAfter busyPort.store.lastGranted = [.diag] ++ Requester.commit :: [.linkL, .linkR] ∧
        (∀ q ∈ [Requester.diag], busyPort.store.waiting q = none) ∧ busyPort.store.waiting .commit = some .headerWrite) ∧
      (cycleAfter .commit = [.linkL, .linkR, .diag] ++ Requester.commit :: [] ∧ Requester.diag ∈ [Requester.linkL, .linkR, .diag]) ∧
      (let s := diagAsks false 0 busyPort
       cycleAfter s.store.lastGranted = [] ++ Requester.diag :: [.commit, .linkL, .linkR] ∧
         s.store.waitDiag = some (.diagRead 0 .right 4) ∧ (s.store.slot 0).state = .stored ∧ s.store.waitCommit.isSome = true) := by
  refine ⟨⟨rfl, fun q => by cases q <;> rfl, rfl⟩, ⟨rfl, ?_, rfl⟩, ⟨rfl, by decide⟩, rfl, rfl, by decide +kernel, rfl⟩
  intro q hq
  rw [List.mem_singleton.mp hq]
  rfl

theorem witness_InvalidLinkFrameHasNoEffect :
    (lampFrame (withCrc (0x20 :: 0 :: 0 :: 1 :: 16 :: List.replicate 16 0))).isSome = true ∧
      lampFrame (withCrc (0x20 :: 0 :: 0 :: 1 :: 17 :: List.replicate 17 0)) = none ∧ lampFrame [0x24, 7, 0, 0] = none ∧
      lampFrame [] = none ∧ lampFrame (withCrc [0x25, 7]) = none ∧ lampFrame (withCrc [0x24, 7, 7]) = none ∧
      (List.replicate 16 (119 : Byte)).length ≤ 16 := by
  decide +kernel

/-- The same access under way with its result given up. -/
def unwanted (s : State) : State := { s with store := { s.store with busy := s.store.busy.map fun w => { w with wanted := false } } }

theorem witness_LinkReadFormsItsFrame :
    (let s := diagAsks false 0 (reading .header [] (.headerRead 5))
     (s.link .left).transfer.isSome = true ∧
       s.store.busy = some { requester := linkRequester .left, access := .headerRead 5, wanted := true, found := none } ∧
       s.store.waitDiag.isSome = true ∧ (unwanted s).store.busy.map (·.wanted) = some false) ∧
    (let s := reading (.block 4) [4] (.blockRead 1 .left 4)
     (s.link .left).transfer.isSome = true ∧
       s.store.busy = some { requester := linkRequester .left, access := .blockRead 1 .left 4, wanted := true, found := none } ∧
       (unwanted s).store.busy.map (·.wanted) = some false) ∧
    (let s := abandonTransfer .left (reading .header [] (.headerRead 5))
     (s.link .left).transfer = none ∧ s.store.busy.map (·.wanted) = some false) ∧
    (({ inRun with linkR := { linkUp with wire := some [1] } } : State).link .right).wire.isSome = true :=
  ⟨⟨rfl, rfl, rfl, rfl⟩, ⟨rfl, rfl, rfl⟩, ⟨rfl, rfl⟩, rfl⟩

theorem witness_BlockComparesFormTheMap :
    ∀ k ∈ ([0, 3, 4] : List (Fin 5)),
      let s := diagAsks false 0 (reading .compare [] (.compare 1 3 .left k))
      (s.link .left).transfer.isSome = true ∧
        s.store.busy = some { requester := linkRequester .left, access := .compare 1 3 .left k, wanted := true, found := none } ∧
        s.store.waitCommit = none ∧ s.store.waitLinkL = none ∧ s.store.waitLinkR = none ∧ s.store.waitDiag.isSome = true ∧
        (unwanted s).store.busy.map (·.wanted) = some false := by
  decide +kernel

theorem witness_LampStateReplacesLampStatus :
    lampFrame (withCrc [0x20, 0, 35, 1, 2, 119, 120]) = some (.lampState 35 true [119, 120]) ∧ inRun.linkL.state = .down ∧
      (bothUp inRun).linkL.supplyOk = some true := by
  decide +kernel

theorem witness_StatusTimerTakesTheLinkDown : ((clockState 1).link .right).statusTimer = some 299 := by decide +kernel

/-- The frames of FETCH: sequence 411 agreed, and FULL. -/
theorem witness_FetchTakesTheNewestFrame :
    lampFrame (withCrc [0x21, 0x01, 0x9B, 0]) = some (.fetch 411 false false) ∧
      lampFrame (withCrc [0x21, 0x01, 0x9B, 1]) = some (.fetch 411 true false) ∧ NoDiagAtIdlePort beforeFetch.store ∧
      inRun.linkL.state = .down ∧ beforeFetch.linkL.state = .up ∧ (beforeFetch.store.slot 1).newest = true ∧
      (∀ i, (beforeFetch.store.slot i).newest = true → i = 1) ∧ (beforeFetch.store.slot 1).sequence = some 413 ∧
      beforeFetch.linkL.applied = some { slot := 3, sequence := 411 } ∧
      ({ beforeFetch with linkL := { beforeFetch.linkL with applied := some { slot := 1, sequence := 411 } } } : State).linkL.applied
        = some { slot := 1, sequence := 411 } :=
  ⟨by decide +kernel, by decide +kernel, noDiagAtIdlePort_of_none (fun r => by cases r <;> rfl), by decide +kernel,
    by decide +kernel, by decide +kernel, by decide +kernel, by decide +kernel, by decide +kernel, by decide +kernel⟩

theorem noDiag_transferAt (step : TransferStep) (map : List (Fin 5)) (n : Nat) : NoDiagAtIdlePort (transferAt step map n).store :=
  noDiagAtIdlePort_of_none fun r => by cases r <;> rfl

theorem witness_AckAdvancesOrCompletes :
    (∀ code ∈ [(0, TransferStep.header), (5, .block 4), (6, .finish)],
      lampFrame (withCrc [0x22, 7, putByte code.1]) = some (.ack 7 (some code.2)) ∧ (transferAt code.2 [4] 3).linkL.state = .up ∧
        (transferAt code.2 [4] 3).linkL.transfer.map (fun t => (t.tag, t.step)) = some (7, code.2)) ∧
      NoDiagAtIdlePort (transferAt .finish [4] 3).store ∧ inRun.linkL.state = .down ∧
      (∀ t ∈ (transferAt .header [] 0).linkL.transfer, t.tag ≠ 8 ∨ some TransferStep.finish ≠ some t.step) :=
  ⟨by decide +kernel, noDiag_transferAt _ _ _, by decide +kernel, by decide +kernel⟩

theorem witness_ResendDemandRetriesOrFails :
    (∀ n ∈ [2, 3],
      (transferAt (.block 4) [4] n).linkL.transfer.map (fun t => (t.tag, t.step, t.retries, t.replyTimer)) =
          some (7, .block 4, n, some 0) ∧ (transferAt (.block 4) [4] n).linkL.state = .up) ∧
      TransferStep.block 4 ≠ .compare ∧ NoDiagAtIdlePort (transferAt (.block 4) [4] 2).store ∧
      lampFrame (withCrc [0x23, 7, 5]) = some (.retry 7 (some (.block 4))) ∧ inRun.linkL.state = .down ∧
      (bothUp inRun).linkL.transfer = none ∧ (transferAt .compare [] 0).linkL.transfer.map (·.step) = some .compare ∧
      (∀ frame ∈ [(8, some (TransferStep.block 4)), (7, some .finish), (7, none)],
        ∀ t ∈ (transferAt (.block 4) [4] 2).linkL.transfer, t.tag ≠ frame.1 ∨ frame.2 ≠ some t.step) :=
  ⟨by decide +kernel, by decide, noDiag_transferAt _ _ _, by decide +kernel⟩

/-- R148: a RETRY with another tag changes nothing. -/
theorem test_retry_other_tag :
    outcome id (.retry .left (withCrc [0x23, 8, 5])) (transferAt (.block 4) [4] 2) = some (transferAt (.block 4) [4] 2) := by
  decide +kernel

/-- The port clauses of the five link statements: an idle port where nobody waits; a port that COMMIT has taken while DIAG waits and the
link is in transfer; the link's own access under way, which the statements keep as no longer wanted. -/
theorem witness_linkPort :
    (transferAt .header [] 0).store.busy = none ∧ (transferAt .header [] 0).store.waitDiag = none ∧
      (transferAt .header [] 0).store.waitCommit = none ∧ (transferAt .header [] 0).store.waitLinkR = none ∧
      (let s := diagAsks false 1 (committing 2 (.blockWrite .left 2))
       s.store.busy.map (·.requester) = some .commit ∧ s.store.waitDiag = some (.diagRead 1 .right 4)) ∧
      (reading .header [4] (.headerRead 1)).store.busy.map (fun w => (w.requester, w.wanted)) = some (.linkL, true) := by
  decide +kernel

/-- The premises of the calibration clauses: CONFIG, and RUN with a committed set. -/
theorem witness_calibration :
    State.reset.operating = .config ∧ inRun.operating = .run ∧ inRun.committed = some defaultCal := by
  decide +kernel

theorem witness_QuitAbandonsTheTransfer :
    lampFrame (withCrc [0x24, 7]) = some (.quit 7) ∧ (transferAt .compare [] 0).linkL.state = .up ∧
      (transferAt .compare [] 0).linkL.transfer.map (·.tag) = some 7 ∧ inRun.linkL.state = .down ∧
      (∀ t ∈ (transferAt .compare [] 0).linkL.transfer, t.tag ≠ 8) := by
  decide +kernel

theorem witness_FaultJoinsSummaryAndCapture :
    burst.diag.capture.isSome = true ∧ inRun.diag.capture = none ∧ burst.diag.notices.getLsbD 2 = true ∧
      burst.diag.mask.getLsbD 5 = true ∧ inRun.diag.notices.getLsbD 2 = false := by
  decide +kernel

theorem witness_ClearFaultsClearNoticesAndMask :
    burst.cPort.busOff = false ∧ ([0xFF, 0xFF, 1] : List Byte).length = 3 ∧ ([0] : List Byte).length = 1 ∧
      burst.diag.notices &&& burst.diag.mask &&& ~~~(BitVec.ofNat 8 (byteAt [0xFF] 0)) = 0 ∧
      burst.diag.notices &&& burst.diag.mask &&& ~~~(BitVec.ofNat 8 (byteAt [0] 0)) ≠ 0 := by
  decide +kernel

theorem witness_DiagReadsAnswerFromTheirOwner :
    (∀ b ∈ ([0, 2, 3, 4, 5] : List Byte), ([b, 3, 1, 0] : List Byte).length = 4) ∧ inRun.cPort.busOff = false ∧
      inRun.reader = none ∧ (after (.diagReadFrameBlock [1, 0, 0, 0]) inRun).reader.isSome = true ∧ byteAt [4, 3, 1, 0] 0 ≤ 4 ∧
      4 < byteAt [5, 3, 1, 0] 0 ∧ byteAt [3, 3, 1, 0] 1 ≤ 3 ∧ byteAt [3, 3, 1, 0] 2 ≤ 1 ∧ 3 < byteAt [3, 4, 1, 0] 1 ∧
      1 < byteAt [3, 3, 2, 0] 2 := by
  decide +kernel

theorem witness_FrameBlockReadIsJudgedAtItsGrant :
    (([1, 5, 1, 4] : List Byte).length = 4 ∧ inRun.cPort.busOff = false ∧ inRun.reader = none ∧ byteAt [1, 5, 1, 4] 0 = 1 ∧
      5 < byteAt [1, 6, 0, 0] 1 ∧ 1 < byteAt [1, 0, 2, 0] 2 ∧ 4 < byteAt [1, 0, 0, 5] 3 ∧ busyPort.store.busy.isSome = true ∧
      inRun.store.busy = none ∧ (inRun.store.slot 0).state = .stored ∧ (inRun.store.slot 0).sequence = some 0 ∧
      (inRun.store.slot 5).state ≠ .stored) ∧
    (∀ r, inRun.store.waiting r = none) ∧
    (let s := diagAsks false 5 inRun
     s.store.waitDiag = some (.diagRead 5 .right 4) ∧ (∀ r, r ≠ .diag → s.store.waiting r = none) ∧ s.reader = some [1, 5, 1, 4]) ∧
    (let s := diagAsks false 0 busyPort
     s.store.waitDiag = some (.diagRead 0 .right 4) ∧ s.reader = some [1, 0, 1, 4] ∧
       cycleAfter s.store.lastGranted = [] ++ Requester.diag :: [.commit, .linkL, .linkR] ∧
       (s.store.slot 0).state = .stored ∧ (s.store.slot 0).sequence = some 0 ∧
       (∀ r, r ≠ .diag → ∀ a ∈ s.store.waiting r, a.isDiag = false) ∧
       ((diagAsks false 5 busyPort).store.slot 5).state ≠ .stored) ∧
    (let s := after (.diagReadFrameBlock [1, 0, 0, 0]) inRun
     s.store.busy.map (·.requester) = some .diag ∧ (s.store.busy.bind (·.found)).isSome = true ∧ s.reader = some [1, 0, 0, 0] ∧
       s.store.waitCommit = none ∧ s.store.waitLinkL = none ∧ s.store.waitLinkR = none ∧ s.store.waitDiag = none) := by
  refine ⟨by decide +kernel, fun r => by cases r <;> rfl, ⟨rfl, fun r hr => ?_, rfl⟩,
    ⟨rfl, rfl, rfl, by decide +kernel, rfl, fun r hr a ha => ?_, by decide +kernel⟩, by decide +kernel⟩
  · cases r <;> first | rfl | exact absurd rfl hr
  · cases r <;> first | exact absurd rfl hr | (cases ha; rfl) | cases ha

/-- The state with one command waiting. -/
def withCommand (c : Instr) (s : State) : State := { s with pending := [c] }

theorem witness_FilledCaptureRecordIsLocked :
    (withCommand .visionLoss burst).diag.capture.isSome = true ∧ (∃ t, step (withCommand .visionLoss burst) = .next t) ∧
      (∃ t, step (withCommand (.clearFaults [0, 0, 1]) burst) = .next t) ∧ ∃ t, step (withCommand .powerOnReset burst) = .next t :=
  ⟨rfl, of_completes (by decide +kernel), of_completes (by decide +kernel), of_completes (by decide +kernel)⟩

theorem witness_TrackTableKeptByEveryStep :
    let s := withCommand (.tracks ([1, 0, 0, 0] ++ recordBytes 254 0 2500 ++ [0, 0])) (withTracks fullTable inRun)
    TrackTableInv s ∧ ∃ t, step s = .next t := by
  refine ⟨?_, of_completes (by decide +kernel)⟩
  unfold TrackTableInv TrackEntry.InRange
  decide +kernel

theorem witness_CalibrationAndTimesKeptByEveryStep :
    let s := withCommand .flashExpiry (clockState 1)
    (CalibrationInv s ∧ TimesInv s) ∧ ∃ t, step s = .next t := by
  refine ⟨⟨⟨defaultCal_inRange, ?_, fun _ => rfl⟩, ?_, fun _ => ⟨19, rfl, by decide +kernel⟩, ?_, ?_⟩,
    of_completes (by decide +kernel)⟩
  · intro c hc
    cases hc
    exact ⟨defaultCal_inRange, by decide +kernel⟩
  · intro h; cases h
  · intro e he
    rw [List.mem_singleton.mp he]
    exact ⟨by decide +kernel, trivial⟩
  · show (2999 : Nat) < _
    decide +kernel

theorem witness_PresenceAndSelectorKeptByEveryStep :
    let s := withCommand .presenceStale (clockState 1)
    PresenceInv s ∧ ∃ t, step s = .next t := by
  refine ⟨⟨⟨?_, ⟨rfl, 99, rfl, by decide⟩, by decide +kernel, ?_⟩, ⟨rfl, rfl, ?_, ?_⟩, by decide +kernel, ?_⟩,
    of_completes (by decide +kernel)⟩
  · intro r hr; cases hr; unfold MotionRecord.InRange; decide
  · intro l hl; cases hl
  · intro l hl; cases hl
  · intro h; cases h
  · intro n hn; cases hn; decide

theorem witness_CacheTagsKeptByEveryStep :
    CacheInv (withCommand (.distDrop [6]) lockedSet) ∧ ∃ t, step (withCommand (.distDrop [6]) lockedSet) = .next t :=
  ⟨cacheInv_of_check (by decide +kernel) (by decide +kernel), of_completes (by decide +kernel)⟩

theorem witness_StoreKeptAndNoStepStops : StoreInv (withCommand .commitHeaderWriteDone (committing 10 .headerWrite)) :=
  storeInv_of_check (by decide +kernel) (by unfold HoldsAgree; decide +kernel) (by unfold HoldsAgree; decide +kernel)

theorem witness_NewestFrameKeptByEveryStep :
    let s := withCommand .commitBlockWriteDone (committing 0 (.blockWrite .left 0))
    NewestFrameInv s ∧ ∃ t, step s = .next t := by
  refine ⟨⟨storeInv_of_check (by decide +kernel) (by unfold HoldsAgree; decide +kernel) (by unfold HoldsAgree; decide +kernel),
    ?_, ?_, ?_⟩, of_completes (by decide +kernel)⟩
  · unfold MirrorAgrees FrameMemory.Holds
    decide +kernel
  · unfold InFlightOk
    decide +kernel
  · refine ⟨by decide, rfl, Or.inr ⟨rfl, rfl⟩, fun k => ⟨fun h => absurd h (Nat.not_lt_zero _), fun h => absurd h (Nat.not_lt_zero _)⟩⟩

theorem witness_LinksKeptByEveryStep :
    let s := withCommand (.linkBlockReadDone .left) (reading (.block 2) [1, 2] (.blockRead 1 .left 2))
    LinksInv s ∧ ∃ t, step s = .next t := by
  refine ⟨⟨⟨⟨⟨0, rfl, by decide⟩, ⟨35, rfl, by decide, by decide⟩, rfl⟩, by decide +kernel, by decide +kernel, by decide +kernel,
      by decide +kernel, ?_, fun _ => rfl⟩,
    ⟨⟨rfl, rfl, rfl, rfl, rfl, rfl, rfl⟩, by decide +kernel, by decide +kernel, by decide +kernel, by decide +kernel, ?_,
      fun _ => rfl⟩,
    Or.inl rfl, Or.inl rfl, Or.inr rfl, rfl⟩, of_completes (by decide +kernel)⟩
  · intro t ht
    cases ht
    unfold Transfer.RecordOk
    decide +kernel
  · intro t ht; cases ht

theorem witness_SegmentValuesKeptByEveryStep :
    let s := withCommand .computeComplete computing
    SegmentInv s ∧ ∃ t, step s = .next t := by
  refine ⟨?_, of_completes (by decide +kernel)⟩
  unfold SegmentInv InByte
  decide +kernel

theorem witness_PortsAndReaderKeptByEveryStep :
    let s := withCommand .diagBlockReadDone (after (.diagReadFrameBlock [1, 0, 0, 0]) inRun)
    PortsInv s ∧ ∃ t, step s = .next t := by
  intro s
  have h : s.vPort.SendOk ∧ s.cPort.SendOk ∧ ReaderInv s := by
    unfold VPortState.SendOk CPortState.SendOk ReaderInv
    decide +kernel
  exact ⟨⟨h.1, h.2.1, h.2.2, fun idle => by cases idle⟩, of_completes (by decide +kernel)⟩

end Sys2Proof.Tests
end

section
/-! SUPPORT. Road users and the track table (Chapter 1), with the diagnostic reads: what each operation does, in the order of the
model's definitions, and then the proofs of the statements. -/

namespace Sys2Proof.Machine

/-! ## A record's class and form (R4) -/

/-- A class code is known exactly when it is at most 3. -/
theorem classOfCode_isSome (n : Nat) : (classOfCode n).isSome = true ↔ n ≤ 3 := by
  unfold classOfCode
  split <;> simp_all
  omega

/-- The class of a code has that code. -/
theorem code_of_classOfCode {n : Nat} {c : TrackClass} (h : classOfCode n = some c) : c.code = n := by
  unfold classOfCode at h
  split at h <;> cases h <;> rfl

theorem malformed_iff (r : TrackRecord) :
    r.malformed = true ↔ ¬(r.id ≠ 0 ∧ r.id ≠ 255 ∧ r.classCode ≤ 3 ∧ r.thetaL ≤ r.thetaR) := by
  have hcode : (classOfCode r.classCode).isNone = true ↔ ¬r.classCode ≤ 3 := by
    rw [← classOfCode_isSome]
    simp
  simp only [TrackRecord.malformed, Bool.or_eq_true, beq_iff_eq, decide_eq_true_eq, hcode]
  omega

theorem entry_cls_code (r : TrackRecord) (h : r.classCode ≤ 3) : r.entry.cls.code = r.classCode := by
  obtain ⟨c, hc⟩ := Option.isSome_iff_exists.mp ((classOfCode_isSome r.classCode).mpr h)
  have hcls : r.entry.cls = c := by simp [TrackRecord.entry, hc]
  rw [hcls, code_of_classOfCode hc]

/-! ## The order of giving up (R8) -/

/-- ONCOMING, PRECEDING, OTHER_LIGHT and SIGN are ranked in that order (Section 1.3.1). -/
theorem priority_order :
    TrackClass.priority .sign < TrackClass.priority .otherLight ∧
      TrackClass.priority .otherLight < TrackClass.priority .preceding ∧
      TrackClass.priority .preceding < TrackClass.priority .oncoming := by
  decide

theorem priority_inj {a b : TrackClass} : a.priority = b.priority ↔ a = b := by
  cases a <;> cases b <;> decide

theorem farther_iff (a b : Nat) : farther a b = true ↔ b ≠ 0 ∧ (a = 0 ∨ b < a) := by
  simp [farther]

/-- The first two criteria of R8, over numbers alone. -/
theorem givenUpBefore_iff (a b : TrackEntry) :
    givenUpBefore a b = true ↔
      a.cls.priority < b.cls.priority ∨
        (a.cls.priority = b.cls.priority ∧ b.dist ≠ 0 ∧ (a.dist = 0 ∨ b.dist < a.dist)) := by
  simp [givenUpBefore, farther_iff, priority_inj]

theorem displaces_iff (e v : TrackEntry) :
    displaces e v = true ↔
      v.cls.priority < e.cls.priority ∨ (e.cls = v.cls ∧ e.dist ≠ 0 ∧ (v.dist = 0 ∨ e.dist < v.dist)) := by
  simp only [displaces, Bool.or_eq_true, Bool.and_eq_true, decide_eq_true_eq, beq_iff_eq, bne_iff_ne, farther_iff]
  tauto

theorem not_givenUpBefore_self (e : TrackEntry) : ¬givenUpBefore e e = true := by
  rw [givenUpBefore_iff]
  omega

theorem givenUpBefore_asymm {a b : TrackEntry} (h : givenUpBefore a b = true) : ¬givenUpBefore b a = true := by
  rw [givenUpBefore_iff] at h ⊢
  omega

/-- Not being given up before another is transitive, so that the ties are an equivalence. -/
theorem not_givenUpBefore_trans {a b c : TrackEntry} (hab : ¬givenUpBefore a b = true) (hbc : ¬givenUpBefore b c = true) :
    ¬givenUpBefore a c = true := by
  rw [givenUpBefore_iff] at *
  omega

/-! ## The victim (R8) -/

/-- The entry `v` at position `p` is given up first: no entry before it by the first two criteria, and none that ties with it
stands at a lower position. -/
def GivenUpFirst (tracks : List TrackEntry) (p : Nat) (v : TrackEntry) : Prop :=
  tracks[p]? = some v ∧
    ∀ (q : Nat) (w : TrackEntry), tracks[q]? = some w →
      ¬givenUpBefore w v = true ∧ (¬givenUpBefore v w = true → p ≤ q)

/-- An entry in front of a table leads it when the entry that led is not given up before it. -/
theorem GivenUpFirst.head {e v : TrackEntry} {rest : List TrackEntry} {p : Nat} (h : GivenUpFirst rest p v)
    (hve : ¬givenUpBefore v e = true) : GivenUpFirst (e :: rest) 0 e := by
  refine ⟨rfl, fun q w hw => ⟨?_, fun _ => Nat.zero_le q⟩⟩
  cases q with
  | zero =>
    cases hw
    exact not_givenUpBefore_self e
  | succ q => exact not_givenUpBefore_trans (h.2 q w hw).1 hve

/-- Otherwise the entry that led still leads, one position further on. -/
theorem GivenUpFirst.tail {e v : TrackEntry} {rest : List TrackEntry} {p : Nat} (h : GivenUpFirst rest p v)
    (hve : givenUpBefore v e = true) : GivenUpFirst (e :: rest) (p + 1) v := by
  refine ⟨h.1, fun q w hw => ?_⟩
  cases q with
  | zero =>
    cases hw
    exact ⟨givenUpBefore_asymm hve, fun hn => absurd hve hn⟩
  | succ q =>
    obtain ⟨hnot, hpos⟩ := h.2 q w hw
    exact ⟨hnot, fun hn => Nat.succ_le_succ (hpos hn)⟩

theorem givenUpFirst_singleton (e : TrackEntry) : GivenUpFirst [e] 0 e := by
  refine ⟨rfl, fun q w hw => ⟨?_, fun _ => Nat.zero_le q⟩⟩
  obtain rfl : w = e := by simpa using List.mem_of_getElem? hw
  exact not_givenUpBefore_self w

/-- A table that is not empty has a victim. -/
theorem victim_isSome_of_ne_nil {tracks : List TrackEntry} (h : tracks ≠ []) : (victim tracks).isSome = true := by
  cases tracks with
  | nil => exact absurd rfl h
  | cons e rest =>
    unfold victim
    split
    · rfl
    · split <;> rfl

/-- The victim stands at a position where it is given up first. -/
theorem exists_givenUpFirst_of_victim {tracks : List TrackEntry} {v : TrackEntry} (h : victim tracks = some v) :
    ∃ p, GivenUpFirst tracks p v := by
  induction tracks generalizing v with
  | nil => cases h
  | cons e rest ih =>
    cases hr : victim rest with
    | none =>
      have hnil : rest = [] := by
        by_contra hne
        simpa [hr] using victim_isSome_of_ne_nil hne
      obtain rfl : e = v := by simpa [victim, hr] using h
      exact ⟨0, hnil ▸ givenUpFirst_singleton e⟩
    | some u =>
      obtain ⟨p, hp⟩ := ih hr
      simp only [victim, hr] at h
      split at h
      next hue =>
        cases h
        exact ⟨p + 1, hp.tail hue⟩
      next hue =>
        cases h
        exact ⟨0, hp.head hue⟩

/-- At most one position holds the entry given up first: two such tie, and each stands no later than the other. -/
theorem GivenUpFirst.position_unique {tracks : List TrackEntry} {p q : Nat} {v w : TrackEntry}
    (hp : GivenUpFirst tracks p v) (hq : GivenUpFirst tracks q w) : p = q := by
  obtain ⟨hnotwv, hle⟩ := hp.2 q w hq.1
  obtain ⟨hnotvw, hge⟩ := hq.2 p v hp.1
  exact Nat.le_antisymm (hle hnotvw) (hge hnotwv)

theorem victim_eq_some_of_givenUpFirst {tracks : List TrackEntry} {p : Nat} {v : TrackEntry} (h : GivenUpFirst tracks p v) :
    victim tracks = some v := by
  have hne : tracks ≠ [] := by
    rintro rfl
    cases h.1
  obtain ⟨u, hu⟩ := Option.isSome_iff_exists.mp (victim_isSome_of_ne_nil hne)
  obtain ⟨q, hq⟩ := exists_givenUpFirst_of_victim hu
  have hvu : some v = some u := by rw [← h.1, ← hq.1, h.position_unique hq]
  rw [hu, hvu]

/-- The victim, at the first position that holds it, is the entry given up first. -/
theorem victim_first_iff {tracks : List TrackEntry} {p : Nat} {v : TrackEntry} (hv : tracks[p]? = some v) :
    (victim tracks = some v ∧ ∀ q w, q < p → tracks[q]? = some w → w ≠ v) ↔ GivenUpFirst tracks p v := by
  constructor
  · rintro ⟨hvictim, hfirst⟩
    obtain ⟨q, hq⟩ := exists_givenUpFirst_of_victim hvictim
    have hqp : q ≤ p := (hq.2 p v hv).2 (not_givenUpBefore_self v)
    have hpq : p ≤ q := Nat.le_of_not_lt fun hlt => hfirst q v hlt hq.1 rfl
    exact Nat.le_antisymm hpq hqp ▸ hq
  · intro h
    refine ⟨victim_eq_some_of_givenUpFirst h, ?_⟩
    rintro q w hlt hw rfl
    exact Nat.not_le_of_lt hlt ((h.2 q w hw).2 (not_givenUpBefore_self w))

/-- What `GivenUpFirst` asks of one other entry, in R8's three criteria. -/
theorem not_givenUpBefore_and_iff (v w : TrackEntry) (p q : Nat) :
    (¬givenUpBefore w v = true ∧ (¬givenUpBefore v w = true → p ≤ q)) ↔
      v.cls.priority ≤ w.cls.priority ∧
        (w.cls = v.cls → v.dist = 0 ∨ (w.dist ≠ 0 ∧ w.dist ≤ v.dist)) ∧
        (w.cls = v.cls → w.dist = v.dist → p ≤ q) := by
  rw [givenUpBefore_iff, givenUpBefore_iff, ← priority_inj]
  omega

/-! ## The table's changes (R1, R6 to R9) -/

theorem isPresent_iff (id : Nat) (tracks : List TrackEntry) : isPresent id tracks = true ↔ ∃ e ∈ tracks, e.id = id := by
  simp [isPresent]

theorem isPresent_eq_false {id : Nat} {tracks : List TrackEntry} (h : ∀ e ∈ tracks, e.id ≠ id) :
    isPresent id tracks = false := by
  simpa [isPresent] using h

theorem removeTrack_eq (id : Nat) (tracks : List TrackEntry) : removeTrack id tracks = tracks.filter fun e => e.id ≠ id := by
  simp only [removeTrack, bne, beq_eq_decide, decide_not, ne_eq]

theorem updateTrack_eq (e : TrackEntry) (tracks : List TrackEntry) :
    updateTrack e tracks = tracks.map fun old => if old.id = e.id then e else old := by
  simp [updateTrack]

theorem admitTrack_update {e : TrackEntry} {tracks : List TrackEntry} (h : ∃ old ∈ tracks, old.id = e.id) :
    admitTrack e tracks = some (tracks.map fun old => if old.id = e.id then e else old) := by
  simp [admitTrack, (isPresent_iff e.id tracks).mpr h, updateTrack_eq]

theorem admitTrack_append {e : TrackEntry} {tracks : List TrackEntry} (h : ∀ old ∈ tracks, old.id ≠ e.id)
    (hroom : tracks.length < 24) : admitTrack e tracks = some (tracks ++ [e]) := by
  simp [admitTrack, isPresent_eq_false h, Config.trackCapacity, hroom]

/-- A newcomer at a full table displaces the victim or is refused (R9). -/
theorem admitTrack_full {e v : TrackEntry} {tracks : List TrackEntry} (h : ∀ old ∈ tracks, old.id ≠ e.id)
    (hfull : 24 ≤ tracks.length) (hv : victim tracks = some v) :
    admitTrack e tracks =
      if displaces e v then some ((tracks.filter fun old => old.id ≠ v.id) ++ [e]) else none := by
  simp [admitTrack, isPresent_eq_false h, Config.trackCapacity, Nat.not_lt_of_le hfull, hv, removeTrack_eq]

/-! ## One record handled (R3) -/

theorem takeRecord_malformed (i : Nat) {r : TrackRecord} (s : State) (h : r.malformed = true) :
    takeRecord i r s = raiseFault (badMessage idTracks i) s := by
  simp [takeRecord, h]

theorem takeRecord_admitted (i : Nat) {r : TrackRecord} {s : State} {tracks : List TrackEntry} (h : r.malformed = false)
    (ha : admitTrack r.entry s.tracks = some tracks) : takeRecord i r s = { s with tracks := tracks } := by
  simp [takeRecord, h, ha]

theorem takeRecord_refused (i : Nat) {r : TrackRecord} {s : State} (h : r.malformed = false)
    (ha : admitTrack r.entry s.tracks = none) :
    takeRecord i r s = raiseFault (itemFault .tableFull (.track r.id i)) s := by
  simp [takeRecord, h, ha]

/-! ## TRACK_END (R10) -/

theorem findTrack_absent {id : Nat} {tracks : List TrackEntry} (h : ∀ e ∈ tracks, e.id ≠ id) : findTrack id tracks = none := by
  simpa [findTrack] using h

/-- With distinct ids (R1), the entry found for an id is the entry of that id. -/
theorem findTrack_of_mem {tracks : List TrackEntry} {e : TrackEntry} (hids : (tracks.map (·.id)).Nodup) (he : e ∈ tracks) :
    findTrack e.id tracks = some e := by
  obtain ⟨f, hf⟩ : ∃ f, findTrack e.id tracks = some f :=
    Option.isSome_iff_exists.mp (List.find?_isSome.mpr ⟨e, he, beq_self_eq_true _⟩)
  have hid : f.id = e.id := by simpa using List.find?_some hf
  rw [hf, List.inj_on_of_nodup_map hids (List.mem_of_find?_eq_some hf) he hid]

theorem releaseTrack_eq (id hold : Nat) (tracks : List TrackEntry) :
    releaseTrack id hold tracks = tracks.map fun e => if e.id = id then { e with life := .releasing hold } else e := by
  simp [releaseTrack]

theorem endTrack_absent {id : Nat} (hold : Nat) {tracks : List TrackEntry} (h : ∀ e ∈ tracks, e.id ≠ id) :
    endTrack id hold tracks = tracks := by
  simp [endTrack, findTrack_absent h]

theorem endTrack_releasing {id hold remaining : Nat} {tracks : List TrackEntry} {e : TrackEntry}
    (hf : findTrack id tracks = some e) (hl : e.life = .releasing remaining) : endTrack id hold tracks = tracks := by
  simp [endTrack, hf, hl]

theorem endTrack_live {id hold : Nat} {tracks : List TrackEntry} {e : TrackEntry}
    (hf : findTrack id tracks = some e) (hl : e.life = .live) :
    endTrack id hold tracks = if hold = 0 then removeTrack id tracks else releaseTrack id hold tracks := by
  simp [endTrack, hf, hl]

section TrackEnd

variable {data : List Byte} {s : State} (hlen : data.length = 1) (hbus : s.vPort.busOff = false)
include hlen hbus

/-- TRACK_END in CONFIG has no effect but the refresh of vision presence (R48). -/
theorem gives_trackEnd_config (hop : s.operating = .config) : Gives (.trackEnd data) s (refreshVision s) := by
  show execTrackEnd data s = _
  rw [execTrackEnd, lengthIs, hlen, beq_self_eq_true, receiveV_ok _ _ _ hbus, refreshVision_operating, hop]
  rfl

/-- TRACK_END in RUN: a fault for an id that no entry carries, else the change that `endTrack` makes. -/
theorem gives_trackEnd_run (hop : s.operating = .run) :
    Gives (.trackEnd data) s
      (if byteAt data 0 = 0 ∨ byteAt data 0 = 255 then raiseFault (badMessage idTrackEnd 0) (refreshVision s)
       else { refreshVision s with
              tracks := endTrack (byteAt data 0) ((activeCal s).nat .releaseHold) s.tracks }) := by
  show execTrackEnd data s = _
  rw [execTrackEnd, lengthIs, hlen, beq_self_eq_true, receiveV_ok _ _ _ hbus]
  split
  next hconfig => exact absurd (hop.symm.trans hconfig) (by decide)
  next => split <;> rfl

/-- TRACK_END in RUN with an id an entry can carry, for a table of which `endTrack` is known. -/
theorem gives_trackEnd_ended {tracks : List TrackEntry} (hop : s.operating = .run) (h0 : byteAt data 0 ≠ 0)
    (h255 : byteAt data 0 ≠ 255)
    (he : endTrack (byteAt data 0) ((activeCal s).nat .releaseHold) s.tracks = tracks) :
    Gives (.trackEnd data) s { refreshVision s with tracks := tracks } := by
  have h := gives_trackEnd_run hlen hbus hop
  rwa [if_neg (not_or.mpr ⟨h0, h255⟩), he] at h

end TrackEnd

/-! ## The diagnostic reads (R178) -/

/-- The five commands of a DIAG_READ's data, one for each target code. -/
def diagReads (data : List Byte) : List Instr :=
  [.diagReadTrackEntry data, .diagReadFrameBlock data, .diagReadCaptureRecord data, .diagReadCacheSlot data,
   .diagReadLookupHistory data]

/-- Each command of a DIAG_READ is accepted in the one way, and then handed to an owner. -/
theorem exec_diagRead {data : List Byte} {c : Instr} (h : c ∈ diagReads data) :
    ∃ own, ∀ s, exec c s = acceptRead data s own := by
  simp only [diagReads, List.mem_cons, List.not_mem_nil, or_false] at h
  rcases h with rfl | rfl | rfl | rfl | rfl <;> exact ⟨_, fun _ => rfl⟩

theorem diagTarget_trackEntry {data : List Byte} (h : byteAt data 0 = 0) :
    diagTarget data = some (.trackEntry (byteAt data 1)) := by
  simp only [diagTarget, h]

theorem diagTarget_captureRecord {data : List Byte} (h : byteAt data 0 = 2) : diagTarget data = some .captureRecord := by
  simp only [diagTarget, h]

theorem diagTarget_cacheSlot {data : List Byte} (h : byteAt data 0 = 3) :
    diagTarget data = some (.cacheSlot (byteAt data 1) (byteAt data 2)) := by
  simp only [diagTarget, h]

theorem diagTarget_lookupHistory {data : List Byte} (h : byteAt data 0 = 4) : diagTarget data = some .lookupHistory := by
  simp only [diagTarget, h]

theorem diagTarget_eq_none {data : List Byte} (h : 4 < byteAt data 0) : diagTarget data = none := by
  unfold diagTarget
  split <;> simp_all

section Read

variable {data : List Byte} {s : State} (hlen : data.length = 4) (hbus : s.cPort.busOff = false)
include hlen hbus

theorem acceptRead_busy (own : DiagTarget → State → Answer) (hbusy : s.reader.isSome = true) :
    acceptRead data s own = .next s := by
  rw [acceptRead, lengthIs, hlen, beq_self_eq_true, receiveC_ok _ _ _ hbus, if_pos hbusy]

theorem acceptRead_unknown (own : DiagTarget → State → Answer) (hfree : s.reader = none)
    (ht : diagTarget data = none) :
    acceptRead data s own = done (raiseFault (badMessage idDiagRead 0) s) := by
  simp [acceptRead, lengthIs, hlen, receiveC_ok _ _ _ hbus, hfree, ht]

theorem acceptRead_known {target : DiagTarget} (own : DiagTarget → State → Answer) (hfree : s.reader = none)
    (ht : diagTarget data = some target) : acceptRead data s own = own target s := by
  simp [acceptRead, lengthIs, hlen, receiveC_ok _ _ _ hbus, hfree, ht]

/-! A read of its owner's target makes the reader busy and queues what the owner holds. -/

theorem gives_diagReadTrackEntry (hfree : s.reader = none) (hcode : byteAt data 0 = 0) :
    Gives (.diagReadTrackEntry data) s (answerRead data (trackReply (byteAt data 1) s) s) := by
  show execDiagReadTrackEntry data s = _
  exact acceptRead_known hlen hbus _ hfree (diagTarget_trackEntry hcode)

theorem gives_diagReadCaptureRecord (hfree : s.reader = none) (hcode : byteAt data 0 = 2) :
    Gives (.diagReadCaptureRecord data) s (answerRead data (captureReply s) s) := by
  show execDiagReadCaptureRecord data s = _
  exact acceptRead_known hlen hbus _ hfree (diagTarget_captureRecord hcode)

theorem gives_diagReadCacheSlot (hfree : s.reader = none) (hcode : byteAt data 0 = 3) :
    Gives (.diagReadCacheSlot data) s (answerRead data (cacheSlotReply (byteAt data 1) (byteAt data 2) s) s) := by
  show execDiagReadCacheSlot data s = _
  exact acceptRead_known hlen hbus _ hfree (diagTarget_cacheSlot hcode)

theorem gives_diagReadLookupHistory (hfree : s.reader = none) (hcode : byteAt data 0 = 4) :
    Gives (.diagReadLookupHistory data) s (answerRead data (historyReply s) s) := by
  show execDiagReadLookupHistory data s = _
  exact acceptRead_known hlen hbus _ hfree (diagTarget_lookupHistory hcode)

end Read

/-- A way's locked mark as DIST_LOCK's level tells it (R64). -/
theorem locked_eq (c : DistCache) {way : Nat} (h : way ≤ 1) : c.locked (way == 1) = decide (c.lockLevel ≥ way + 1) := by
  interval_cases way <;> rfl

theorem disabled_eq (c : DistCache) {way : Nat} (h : way ≤ 1) :
    c.disabled (way == 1) = if way = 0 then c.disableWay0 else c.disableWay1 := by
  interval_cases way <;> rfl

theorem cacheIndex_val {set way : Nat} (hset : set ≤ 3) (hway : way ≤ 1) : (cacheIndex set (way == 1)).val = set * 2 + way := by
  have hmod : set % 4 = set := Nat.mod_eq_of_lt (by omega)
  interval_cases way <;> simp [cacheIndex, hmod]

theorem cacheSlotReply_empty {set way : Nat} (s : State) (h : 3 < set ∨ 1 < way) : cacheSlotReply set way s = .empty := by
  have hout : ¬(set ≤ 3 ∧ way ≤ 1) := by omega
  simp only [cacheSlotReply, if_neg hout]

theorem cacheSlotReply_slot {set way : Nat} (s : State) (hset : set ≤ 3) (hway : way ≤ 1) :
    cacheSlotReply set way s =
      let sl := s.cache.slots.get (cacheIndex set (way == 1))
      .cacheSlot
        { valid := sl.valid, tag := sl.tag, locked := decide (s.cache.lockLevel ≥ way + 1)
          disabled := if way = 0 then s.cache.disableWay0 else s.cache.disableWay1
          lastUse := sl.lastUse } := by
  simp only [cacheSlotReply, if_pos (And.intro hset hway), locked_eq _ hway, disabled_eq _ hway, DistCache.slot]

theorem historyReply_eq (s : State) :
    historyReply s = if s.cache.history = [] then .empty else .history s.cache.history := by
  cases h : s.cache.history <;> simp [historyReply, h]

end Sys2Proof.Machine

namespace Sys2Proof.Proofs

open Sys2Proof.Machine

/-- Settles O14: the victim is the entry given up first, at the first position that holds it. -/
theorem victimIsLowestFarthestOldest : Obligations.VictimIsLowestFarthestOldest := by
  refine ⟨priority_order, fun tracks p v hv => ?_⟩
  rw [victim_first_iff hv]
  simp only [GivenUpFirst, hv, true_and, not_givenUpBefore_and_iff]

/-- Settles O13: a malformed record is a fault; a well-formed one takes `admitTrack`'s outcome. -/
theorem trackRecordUpdatesAppendsOrCompetes : Obligations.TrackRecordUpdatesAppendsOrCompetes := by
  refine ⟨priority_order, fun i r s => ⟨fun hbad => takeRecord_malformed i s ((malformed_iff r).mpr hbad), fun hok => ?_⟩⟩
  have hform : r.malformed = false := Bool.eq_false_iff.mpr fun hm => (malformed_iff r).mp hm hok
  obtain ⟨-, -, hcode, -⟩ := hok
  refine ⟨rfl, entry_cls_code r hcode, rfl, rfl, rfl, rfl, rfl, rfl, rfl, ?update, ?append, ?full⟩
  case update => exact fun hold => takeRecord_admitted i hform (admitTrack_update hold)
  case append => exact fun hnew hroom => takeRecord_admitted i hform (admitTrack_append hnew hroom)
  case full =>
    intro hnew hfull v hv
    have hadmit := admitTrack_full (e := r.entry) hnew hfull hv
    refine ⟨fun hwins => ?_, fun hloses => ?_⟩
    · rw [if_pos ((displaces_iff _ _).mpr hwins)] at hadmit
      exact takeRecord_admitted i hform hadmit
    · rw [if_neg (mt (displaces_iff _ _).mp hloses)] at hadmit
      exact takeRecord_refused i hform hadmit

/-- Settles O15: by the operating state, then the id, then the life of the entry found. -/
theorem trackEndReleasesOrRemoves : Obligations.TrackEndReleasesOrRemoves := by
  intro data s hlen hbus
  refine ⟨gives_trackEnd_config hlen hbus, fun hop => ⟨fun hid => ?_, fun h0 h255 habsent => ?_, ?_⟩⟩
  · have h := gives_trackEnd_run hlen hbus hop
    rwa [if_pos hid] at h
  · exact gives_trackEnd_ended hlen hbus hop h0 h255 (endTrack_absent _ habsent)
  · intro h0 h255 hids e he hid
    have hf : findTrack (byteAt data 0) s.tracks = some e := hid ▸ findTrack_of_mem hids he
    have hended := fun tracks => gives_trackEnd_ended (tracks := tracks) hlen hbus hop h0 h255
    refine ⟨fun hlive hhold => hended _ ?_, fun hlive hhold => hended _ ?_, fun remaining hrel => ?_⟩
    · rw [endTrack_live hf hlive, if_neg (Nat.ne_of_gt hhold), releaseTrack_eq]
    · rw [endTrack_live hf hlive, if_pos hhold, removeTrack_eq]
    · exact hended _ (endTrack_releasing hf hrel)

/-- Settles O48: `acceptRead` decides by the reader and the target code, and the owner's reply function gives the data. -/
theorem diagReadsAnswerFromTheirOwner : Obligations.DiagReadsAnswerFromTheirOwner := by
  intro data s hlen hbus
  refine ⟨fun hbusy _ c hc => ?busy, fun hfree hcode c hc => ?unknown, fun hfree hcode => ?track, fun hfree hcode => ?capture,
    fun hfree hcode => ⟨fun hset hway => ⟨cacheIndex _ _, cacheIndex_val hset hway, ?slot⟩, fun hout => ?noSlot⟩,
    fun hfree hcode => ?history⟩
  case busy =>
    obtain ⟨own, hown⟩ := exec_diagRead hc
    rw [hown, acceptRead_busy hlen hbus own hbusy]
  case unknown =>
    obtain ⟨own, hown⟩ := exec_diagRead hc
    exact (hown s).trans (acceptRead_unknown hlen hbus own hfree (diagTarget_eq_none hcode))
  case track => exact gives_diagReadTrackEntry hlen hbus hfree hcode
  case capture => exact gives_diagReadCaptureRecord hlen hbus hfree hcode
  case slot =>
    have h := gives_diagReadCacheSlot hlen hbus hfree hcode
    rw [cacheSlotReply_slot s hset hway] at h
    exact h
  case noSlot => exact cacheSlotReply_empty s hout ▸ gives_diagReadCacheSlot hlen hbus hfree hcode
  case history => exact historyReply_eq s ▸ gives_diagReadLookupHistory hlen hbus hfree hcode

end Sys2Proof.Proofs
end

section
/-! SUPPORT. Vehicle motion, curvature, bend and levelling (Chapter 2), with the road class that a MOTION drives (R51 to R54): what
each operation does, in the order of the model's definitions, and then the proofs of the statements. -/

namespace Sys2Proof.Machine

/-! ## Clamping and rounding (5.2) -/

theorem clamp_eq {lo hi : Int} (x : Int) (h : lo ≤ hi) : clamp lo hi x = max lo (min hi x) := by
  unfold clamp
  split
  · omega
  · split <;> omega

/-- The rounding of a negative number mirrors that of its positive. -/
theorem roundDiv_of_neg {n : Int} (d : Nat) (h : n < 0) : roundDiv n d = -roundDiv (-n) d := by
  have hpos : ¬-n < 0 := by omega
  simp only [roundDiv, if_pos h, if_neg hpos]

/-- At and above 0 the rounded quotient is the greatest `q` with `q * d ≤ n + d / 2`. -/
theorem roundDiv_bounds {n : Int} {d : Nat} (hn : 0 ≤ n) (hd : 0 < d) :
    2 * (roundDiv n d * d) ≤ 2 * n + d ∧ 2 * n < 2 * (roundDiv n d * d) + d := by
  have hq : roundDiv n d = (2 * n + d) / (2 * d) := if_neg (Int.not_lt.mpr hn)
  have hlower := Int.ediv_mul_le (2 * n + d) (b := 2 * (d : Int)) (by omega)
  have hupper := Int.lt_ediv_add_one_mul_self (2 * n + d) (b := 2 * (d : Int)) (by omega)
  rw [← hq] at hlower hupper
  constructor <;> linarith

/-- Rounding is to the nearest integer, halves away from zero. -/
theorem roundDiv_nearest (n : Int) {d : Nat} (hd : 0 < d) :
    2 * (n - roundDiv n d * d).natAbs ≤ d ∧
      (2 * (n - roundDiv n d * d).natAbs = d → n.natAbs < (roundDiv n d * d).natAbs) := by
  by_cases hn : n < 0
  · have hbounds := roundDiv_bounds (n := -n) (by omega) hd
    rw [roundDiv_of_neg d hn, Int.neg_mul]
    omega
  · have hbounds := roundDiv_bounds (Int.not_lt.mp hn) hd
    omega

/-! ## A calibration in range -/

theorem Param.mem_all (p : Param) : p ∈ Param.all := by cases p <;> decide

theorem CalSet.InRange.get {c : CalSet} (h : c.InRange) (p : Param) : p.range.1 ≤ c.get p ∧ c.get p ≤ p.range.2 :=
  h p p.mem_all

theorem CalSet.InRange.bendMax_nonneg {c : CalSet} (h : c.InRange) : 0 ≤ c.get .bendMax := (h.get .bendMax).1

theorem CalSet.InRange.bendStep_pos {c : CalSet} (h : c.InRange) : 1 ≤ c.get .bendStep := (h.get .bendStep).1

/-! ## Light count (R15) -/

theorem lightCount_eq (confMin : Nat) (tracks : List TrackEntry) :
    lightCount confMin tracks =
      tracks.countP fun e => decide (e.life = .live ∧ e.cls = .otherLight ∧ confMin ≤ e.conf) := by
  rw [lightCount, List.countP_eq_length_filter]
  congr 2
  funext e
  simp [Bool.and_assoc, beq_eq_decide]

/-! ## The curvature selection (R31, R32) -/

theorem LaneRecord.usable_iff (laneConfMin : Nat) (l : LaneRecord) :
    l.usable laneConfMin = true ↔ l.age < 150 ∧ laneConfMin ≤ l.conf := by
  rw [LaneRecord.usable, Bool.and_eq_true, decide_eq_true_iff, decide_eq_true_iff, Config.laneAgeLimit]

theorem curvature_of_usable {laneConfMin : Nat} {u : MotionUnit} {l : LaneRecord} (hl : u.lane = some l)
    (h : l.age < 150 ∧ laneConfMin ≤ l.conf) : curvature laneConfMin u = (l.kappa, .vision) := by
  simp [curvature, hl, (l.usable_iff laneConfMin).mpr h]

theorem curvature_of_not_usable {laneConfMin : Nat} {u : MotionUnit}
    (h : ¬∃ l ∈ u.lane, l.age < 150 ∧ laneConfMin ≤ l.conf) : curvature laneConfMin u = yawSelection u := by
  cases hl : u.lane with
  | none => simp [curvature, hl]
  | some l =>
    have hl' : ¬l.usable laneConfMin = true := fun hu => h ⟨l, hl, (l.usable_iff laneConfMin).mp hu⟩
    simp [curvature, hl, hl']

theorem yawSelection_of_fast {u : MotionUnit} {m : MotionRecord} (hp : u.presence = .fresh) (hm : u.record = some m)
    (hv : 200 ≤ m.v) : yawSelection u = (max (-20000) (min 20000 (roundDiv (m.omega * 17453) m.v)), .yaw) := by
  simp only [yawSelection, hp, hm, Config.yawSpeedMin, if_pos hv, yawCurvature, clamp_eq _ (by decide : (-20000 : Int) ≤ 20000)]

/-- Case 3 of Table 2-3: presence not FRESH, or the record too slow. -/
theorem yawSelection_of_slow {u : MotionUnit} (h : u.presence ≠ .fresh ∨ ∀ m ∈ u.record, m.v < 200) :
    yawSelection u = (0, .noSource) := by
  unfold yawSelection
  split
  next m hp hm =>
    have hv : m.v < 200 := (h.resolve_left (not_not.mpr hp)) m hm
    exact if_neg (Nat.not_le_of_lt hv)
  next => rfl

/-! ## Bend and levelling (R34 to R37) -/

theorem bendTarget_eq {c : CalSet} (snap : Snapshot) (h : 0 ≤ c.get .bendMax) :
    bendTarget c snap =
      if ∃ m ∈ snap.motion, m.reverse = true then 0
      else
        max (-c.get .bendMax)
          (min (c.get .bendMax) (roundDiv (previewAngle (c.nat .tPrev) snap * c.get .bendGain) 256)) := by
  rw [bendTarget, clamp_eq _ (by omega)]
  simp only [Option.any_eq_true, Option.mem_def]

theorem bendTarget_within {c : CalSet} (snap : Snapshot) (h : 0 ≤ c.get .bendMax) :
    -c.get .bendMax ≤ bendTarget c snap ∧ bendTarget c snap ≤ c.get .bendMax := by
  rw [bendTarget_eq snap h]
  split <;> omega

/-- The step toward the target is the distance to it, clamped to the step's size. -/
theorem stepBend_eq {bendStep : Int} (previous target : Int) (h : 0 ≤ bendStep) :
    stepBend bendStep previous target = previous + max (-bendStep) (min bendStep (target - previous)) := by
  unfold stepBend
  split
  · omega
  · split <;> omega

theorem newBend_eq {c : CalSet} (snap : Snapshot) (h : c.InRange) :
    newBend c snap =
      snap.previous.bend +
        max (-c.get .bendStep) (min (c.get .bendStep) (bendTarget c snap - snap.previous.bend)) :=
  stepBend_eq _ _ (Int.le_of_lt h.bendStep_pos)

theorem newLevel_of_fresh {c : CalSet} {snap : Snapshot} {m : MotionRecord} (hp : snap.presence = .fresh)
    (hm : snap.motion = some m) : newLevel c snap = max (-300) (min 300 (c.get .levelOffset - m.pCh)) := by
  simp only [newLevel, hp, hm, clamp_eq _ (by decide : (-300 : Int) ≤ 300)]

theorem newLevel_of_not_fresh {c : CalSet} {snap : Snapshot} (hp : snap.presence ≠ .fresh) :
    newLevel c snap = snap.previous.level := by
  unfold newLevel
  split
  next hfresh _ => exact absurd hfresh hp
  next => rfl

/-! ## MOTION (R25 to R27, R51 to R54) -/

theorem confirmThreshold_eq (confirmN confirmWinding : Nat) (c : RoadClass) :
    confirmThreshold confirmN confirmWinding c = if c = .winding then confirmWinding else confirmN := by
  cases c <;> rfl

/-- A candidate against the confirmation record: it clears it, or counts in it, or switches the road class. -/
theorem confirmCandidate_eq (confirmN confirmWinding : Nat) (c : RoadClass) (m : ModeSelector) :
    confirmCandidate confirmN confirmWinding c m =
      let count := if m.candidate = some c then m.count + 1 else 1
      if c = m.roadClass then { m with candidate := none, count := 0 }
      else if (if c = .winding then confirmWinding else confirmN) ≤ count then
        { m with roadClass := c, candidate := none, count := 0 }
      else { m with candidate := some c, count := count } := by
  unfold confirmCandidate noteCandidate
  by_cases hclass : c = m.roadClass
  · simp [hclass, switchClass]
  · by_cases hpending : m.candidate = some c <;> simp [hclass, hpending, switchClass, confirmThreshold_eq]

theorem isRepeat_iff (r : MotionRecord) (u : MotionUnit) :
    isRepeat r u = true ↔ ∃ old ∈ u.record, old.alive = r.alive := by
  simp only [isRepeat, Option.any_eq_true, Option.mem_def, beq_iff_eq]

/-- The third repeat of a run raises MOTION_FROZEN, once (R26). -/
theorem repeatMotion_third {s : State} (h : 3 ≤ s.motion.runCount + 1 ∧ s.motion.frozenRaised = false) :
    repeatMotion s =
      raiseFault (plainFault .motionFrozen)
        { s with motion := { s.motion with runCount := s.motion.runCount + 1, frozenRaised := true } } :=
  if_pos h

theorem repeatMotion_unraised {s : State} (h : ¬(3 ≤ s.motion.runCount + 1 ∧ s.motion.frozenRaised = false)) :
    repeatMotion s = { s with motion := { s.motion with runCount := s.motion.runCount + 1 } } :=
  if_neg h

section Motion

variable {data : List Byte} {s : State} (hlen : data.length = 12) (hbus : s.cPort.busOff = false)
include hlen hbus

theorem gives_motion_repeat (h : isRepeat (motionFields data) s.motion = true) :
    Gives (.motion data) s (repeatMotion s) := by
  show execMotion data s = _
  rw [execMotion, lengthIs, hlen, beq_self_eq_true, receiveC_ok _ _ _ hbus, if_pos h]
  rfl

theorem gives_motion_accepted (h : ¬isRepeat (motionFields data) s.motion = true) :
    Gives (.motion data) s (acceptMotion (motionFields data) s) := by
  show execMotion data s = _
  rw [execMotion, lengthIs, hlen, beq_self_eq_true, receiveC_ok _ _ _ hbus, if_neg h]
  rfl

end Motion

/-! ## LANE and SCENE (R30, R46) -/

section LaneScene

variable {data : List Byte} {s : State} (hlen : data.length = 3) (hbus : s.vPort.busOff = false)
include hlen hbus

theorem gives_lane :
    Gives (.lane data) s
      { refreshVision s with motion := { s.motion with lane := some (laneFields data) } } := by
  show execLane data s = _
  rw [execLane, lengthIs, hlen, beq_self_eq_true, receiveV_ok _ _ _ hbus]
  rfl

theorem gives_scene :
    Gives (.scene data) s
      { refreshVision s with selector := { s.selector with scene := sceneFields data } } := by
  show execScene data s = _
  rw [execScene, lengthIs, hlen, beq_self_eq_true, receiveV_ok _ _ _ hbus]
  rfl

end LaneScene

end Sys2Proof.Machine

namespace Sys2Proof.Proofs

open Sys2Proof.Machine

/-- Settles O32: the bend is the previous bend plus the clamped distance to the target, from which every clause is arithmetic. -/
theorem bendStepsTowardItsTarget : Obligations.BendStepsTowardItsTarget := by
  refine ⟨fun n d hd => roundDiv_nearest n hd, fun lo hi x h => clamp_eq x h, ?_⟩
  intro c snap workingCopy sequence hc h speed psi gain bendMax bendStep target previous
  have htarget : bendTarget c snap = target := bendTarget_eq snap hc.bendMax_nonneg
  have hwithin : -bendMax ≤ target ∧ target ≤ bendMax := htarget ▸ bendTarget_within snap hc.bendMax_nonneg
  have hbend : h.bend = previous + max (-bendStep) (min bendStep (target - previous)) := htarget ▸ newBend_eq snap hc
  have hstep : 1 ≤ bendStep := hc.bendStep_pos
  refine ⟨by omega, by omega, by omega, by omega, by omega, fun m hm hp => ?_, fun hp => ?_⟩
  · exact newLevel_of_fresh hp hm
  · exact newLevel_of_not_fresh hp

/-- Settles O17: each is accepted at its length, and the decoded fields are the record. -/
theorem laneAndSceneReplaceTheirRecords : Obligations.LaneAndSceneReplaceTheirRecords :=
  fun _ _ hlen hbus => ⟨gives_lane hlen hbus, gives_scene hlen hbus⟩

/-- Settles O18: the curvature by Table 2-3's cases, then the message by whether its alive counter is the record's. -/
theorem motionRepeatedOrAccepted : Obligations.MotionRepeatedOrAccepted := by
  refine ⟨fun laneConfMin u => ⟨?vision, ?yaw, ?noSource⟩, lightCount_eq, fun data s hlen hbus => ⟨?repeated, ?accepted⟩⟩
  case vision => exact fun l hl hage hconf => curvature_of_usable hl ⟨hage, hconf⟩
  case yaw =>
    exact fun hlane m hm hp hv => (curvature_of_not_usable hlane).trans (yawSelection_of_fast hp hm hv)
  case noSource => exact fun hlane h => (curvature_of_not_usable hlane).trans (yawSelection_of_slow h)
  case repeated =>
    intro hrepeat
    have hgives := gives_motion_repeat hlen hbus ((isRepeat_iff (motionFields data) s.motion).mpr hrepeat)
    intro count
    split
    next hthird => exact repeatMotion_third hthird ▸ hgives
    next hnot => exact repeatMotion_unraised hnot ▸ hgives
  case accepted =>
    intro hnew
    have hnot : ¬isRepeat (motionFields data) s.motion = true := by
      rw [isRepeat_iff]
      exact fun ⟨r, hr, halive⟩ => hnew r hr halive
    have hgives := gives_motion_accepted hlen hbus hnot
    -- What remains is the statement's gate, candidate and count, spelt as `nextGate` and `roadCandidate` spell them.
    rw [acceptMotion, judgeMotion, confirmCandidate_eq] at hgives
    exact hgives

end Sys2Proof.Proofs
end

section
/-! SUPPORT. Mode selection (Chapter 3), the driver request and the flash: what DRIVER and FLASH_EXPIRY do, in the order of the
model's definitions, and then the proof of the statement. -/

namespace Sys2Proof.Machine

/-! ## The request codes (R43) -/

/-- A request's code is decoded to that request. -/
@[simp] theorem requestOfCode_code (r : DriverRequest) : requestOfCode r.code = some r := by
  rcases r with (_ | _ | _ | _) | _ <;> rfl

/-- The codes above FLASH's are unknown. -/
theorem requestOfCode_eq_none {n : Nat} (h : DriverRequest.flash.code < n) : requestOfCode n = none := by
  obtain ⟨k, rfl⟩ := Nat.exists_eq_add_of_le' h
  rfl

/-! ## A DRIVER with a valid code (Table 3-2) -/

theorem takeDriver_steady (q : SteadyRequest) (m : ModeSelector) :
    takeDriver (.steady q) m = { m with request := .steady q, lastSteady := q, flash := .idle } := rfl

theorem takeDriver_flash_idle {m : ModeSelector} (h : m.flash = .idle) :
    takeDriver .flash m = { m with request := .flash, flash := .active 0 } := by
  simp only [takeDriver, h]

theorem takeDriver_flash_active {m : ModeSelector} {elapsed : Nat} (h : m.flash = .active elapsed) :
    takeDriver .flash m = { m with request := .flash } := by
  simp only [takeDriver, h]

theorem takeDriver_flash_spent {m : ModeSelector} (h : m.flash = .spent) : takeDriver .flash m = m := by
  simp only [takeDriver, h]

/-! ## DRIVER (R43, R44) -/

section Driver

variable {data : List Byte} {s : State} (hlen : data.length = 1) (hbus : s.cPort.busOff = false)
include hlen hbus

theorem gives_driver_request {r : DriverRequest} (hcode : byteAt data 0 = r.code) :
    Gives (.driver data) s { s with selector := takeDriver r s.selector } := by
  show execDriver data s = _
  rw [execDriver, lengthIs, hlen, beq_self_eq_true, receiveC_ok _ _ _ hbus, hcode, requestOfCode_code]
  rfl

theorem gives_driver_unknown (hcode : DriverRequest.flash.code < byteAt data 0) :
    Gives (.driver data) s (raiseFault (badMessage idDriver 0) s) := by
  show execDriver data s = _
  rw [execDriver, lengthIs, hlen, beq_self_eq_true, receiveC_ok _ _ _ hbus, requestOfCode_eq_none hcode]
  rfl

end Driver

/-! ## FLASH_EXPIRY (R45) -/

theorem gives_flashExpiry {s : State} {elapsed : Nat} (h : s.selector.flash = .active elapsed) :
    Gives .flashExpiry s { s with selector := spendFlash s.selector } := by
  show execFlashExpiry s = _
  rw [execFlashExpiry, h]
  rfl

end Sys2Proof.Machine

namespace Sys2Proof.Proofs

open Sys2Proof.Machine

/-- Settles O20: DRIVER by its code, and code 4 by the flash state; the flash's running out is `spendFlash`. -/
theorem driverRequestAndFlash : Obligations.DriverRequestAndFlash := by
  refine ⟨fun data s hlen hbus => ⟨?steady, ?flash, ?unknown⟩, fun s n hactive => gives_flashExpiry hactive⟩
  case steady => exact fun q hcode => takeDriver_steady q s.selector ▸ gives_driver_request hlen hbus hcode
  case flash =>
    intro hcode
    have hgives := gives_driver_request (r := .flash) hlen hbus hcode
    split
    next hidle => rwa [takeDriver_flash_idle hidle] at hgives
    next hactive => rwa [takeDriver_flash_active hactive] at hgives
    next hspent => rwa [takeDriver_flash_spent hspent] at hgives
  case unknown => exact fun hcode => gives_driver_unknown hlen hbus hcode

end Sys2Proof.Proofs
end

section
/-! SUPPORT. The distribution cache (Chapter 4): the ways of a set, the lookup with its miss, and the commands DIST_DROP, DIST_CLEAR,
DIST_LOCK and REQUEST_TIMER_EXPIRY, in the order of the model's definitions, and then the proofs of the statements. -/

namespace Sys2Proof.Machine

/-! ## Slots and ways (R63, R64) -/

theorem get_setSlot (c : DistCache) (d : Nat) (w : Bool) (sl : CacheSlot) (i : Fin 8) :
    (c.setSlot d w sl).slots.get i = if i = cacheIndex d w then sl else c.slots.get i := by
  split
  next h => exact h ▸ slots_get_set_self c (cacheIndex d w) sl
  next h => exact slots_get_set_ne h c sl

/-- An id is the tag of one way of its set at most (R63). -/
theorem CacheInv.way_unique {s : State} (hinv : CacheInv s) {d : Nat} {v w : Bool} (hv : (s.cache.slot d v).tag = some d)
    (hw : (s.cache.slot d w).tag = some d) : v = w := by
  have hindex : cacheIndex d v = cacheIndex d w := hinv.1 _ _ d hv hw
  simpa using congrArg wayOfIndex hindex

/-- The one way with a property is found, whatever the order of the search. -/
theorem find_way_eq_some {p : Bool → Bool} {w : Bool} (hw : p w = true) (honly : ∀ v, p v = true → v = w) :
    [false, true].find? p = some w := by
  cases w with
  | false => simp [hw]
  | true =>
    have hfalse : p false = false := Bool.eq_false_iff.mpr fun h => Bool.false_ne_true (honly false h)
    simp [hw, hfalse]

/-- The levels a DIST_LOCK can set: 2 locks both ways, 1 way 0 alone (R64). -/
theorem lockedUnder_wayOfIndex_iff {level : Nat} (h : level ≤ 2) (i : Fin 8) :
    lockedUnder level (wayOfIndex i) = true ↔ level = 2 ∨ (level = 1 ∧ i.val % 2 = 0) := by
  obtain heven | hodd := Nat.mod_two_eq_zero_or_one i.val
  · have hway : wayOfIndex i = false := by simp [wayOfIndex, heven]
    rw [hway, lockedUnder, decide_eq_true_iff]
    omega
  · have hway : wayOfIndex i = true := by simp [wayOfIndex, hodd]
    rw [hway, lockedUnder, decide_eq_true_iff]
    omega

/-! ## Row check bytes (Table 4-2) -/

theorem testBit_foldl_xor (bit : Nat) (values : List Nat) (x : Nat) :
    (values.foldl (fun x v => x ^^^ v) x).testBit bit =
      (x.testBit bit ^^ decide (values.countP (·.testBit bit) % 2 = 1)) := by
  induction values generalizing x with
  | nil => simp
  | cons v vs ih =>
    have hflip (n : Nat) : decide ((n + 1) % 2 = 1) = !decide (n % 2 = 1) := by
      rw [← decide_not]; exact decide_eq_decide.mpr (by omega)
    rw [List.foldl_cons, ih, Nat.testBit_xor, List.countP_cons]
    cases v.testBit bit <;> simp [hflip]

theorem rowChecks_getD (values : List Nat) {r : Nat} (hr : r < 3) :
    (rowChecks values).getD r 0 =
      ((List.range 40).map fun c => values.getD (r * 40 + c) 0).foldl (fun x v => x ^^^ v) 0 := by
  interval_cases r <;> rfl

theorem testBit_rowChecks_iff (values : List Nat) {r : Nat} (bit : Nat) (hr : r < 3) :
    ((rowChecks values).getD r 0).testBit bit = true ↔
      (List.range 40).countP (fun c => (values.getD (r * 40 + c) 0).testBit bit) % 2 = 1 := by
  rw [rowChecks_getD values hr, testBit_foldl_xor, Nat.zero_testBit, Bool.false_xor, decide_eq_true_iff, List.countP_map]
  rfl

/-! ## The failed-id set (R72) -/

theorem mem_failedAdd (i d : Nat) (failed : List Nat) : i ∈ failedAdd d failed ↔ i < 32 ∧ (i = d ∨ i ∈ failed) := by
  simp [failedAdd]

/-! ## A miss (R67, R68) -/

/-- An id that has failed or is asked for already is not asked for again. -/
theorem missRequest_known {d : Nat} {s : State} (h : d ∈ s.cache.failed ∨ ∃ r ∈ s.cache.request, r.id = d) :
    missRequest d s = s := by
  by_cases hfailed : d ∈ s.cache.failed
  · simp [missRequest, hfailed]
  · obtain ⟨r, hr, hid⟩ := h.resolve_left hfailed
    simp [missRequest, Option.mem_def.mp hr, hid]

theorem missRequest_unknown {d : Nat} {s : State} (hfailed : d ∉ s.cache.failed) (hasked : ∀ r ∈ s.cache.request, r.id ≠ d) :
    missRequest d s = newRequest d s := by
  cases hrequest : s.cache.request with
  | none => simp [missRequest, hfailed, hrequest]
  | some r => simp [missRequest, hfailed, hrequest, hasked r hrequest]

theorem lookupMiss_diag (d : Nat) (s : State) :
    (lookupMiss d s).diag = { s.diag with notices := s.diag.notices ||| NoticeKind.distMiss.bit } := by
  simp [lookupMiss, raiseNotice_eq]

/-! ## The lookup (R65, R66) -/

theorem hitWay_eq_some {s : State} (hinv : CacheInv s) {d : Nat} {w : Bool} (hway : s.cache.disabled w = false)
    (hvalid : (s.cache.slot d w).valid = true) (htag : (s.cache.slot d w).tag = some d) : s.cache.hitWay d = some w := by
  refine find_way_eq_some (by simp [hway, hvalid, htag]) fun v hv => ?_
  simp only [Bool.and_eq_true, beq_iff_eq] at hv
  obtain ⟨-, hvtag⟩ := hv
  exact hinv.way_unique hvtag htag

theorem hitWay_eq_none {c : DistCache} {d : Nat}
    (h : ∀ w, ¬(c.disabled w = false ∧ (c.slot d w).valid = true ∧ (c.slot d w).tag = some d)) : c.hitWay d = none := by
  refine List.find?_eq_none.mpr fun w _ hw => h w ?_
  simpa [and_assoc] using hw

section Lookup

variable {d : Nat} {s : State} {w : Bool} (sequence : Nat)

theorem lookup_of_agreeing (hw : s.cache.hitWay d = some w)
    (hchecks : rowChecks (s.cache.slot d w).values = (s.cache.slot d w).checks) :
    lookup d sequence s = (lookupHit d sequence w s, .hit) := by
  simp only [lookup, hw, if_pos hchecks]

theorem lookup_of_disagreeing (hw : s.cache.hitWay d = some w)
    (hchecks : rowChecks (s.cache.slot d w).values ≠ (s.cache.slot d w).checks) :
    lookup d sequence s = (lookupMiss d (lookupParity d sequence w s), .miss) := by
  simp only [lookup, hw, if_neg hchecks]

theorem lookup_of_no_hit (hw : s.cache.hitWay d = none) : lookup d sequence s = (lookupMiss d s, .miss) := by
  simp only [lookup, hw]

end Lookup

/-- What a parity error leaves in the slot: it is invalid, and its tag stays only while it is locked (R66). -/
theorem parity_slot_eq (locked : Bool) (sl : CacheSlot) :
    (if locked then { sl with valid := false } else dropSlot sl) =
      { sl with valid := false, tag := if locked then sl.tag else none } := by
  cases locked <;> rfl

theorem lookupParity_eq (d sequence : Nat) (w : Bool) (s : State) :
    lookupParity d sequence w s =
      raiseFault { kind := .distParity, sequence := some sequence, link := none, item := some (.dist d) }
        { s with
          cache :=
            s.cache.setSlot d w
              { s.cache.slot d w with
                valid := false, tag := if s.cache.locked w then (s.cache.slot d w).tag else none } } := by
  rw [lookupParity, parity_slot_eq]

/-! ## DIST_DROP (R78) -/

theorem tagWay_eq_some {s : State} (hinv : CacheInv s) {d : Nat} {w : Bool} (htag : (s.cache.slot d w).tag = some d) :
    s.cache.tagWay d = some w :=
  find_way_eq_some (by simp [htag]) fun _ hv => hinv.way_unique (beq_iff_eq.mp hv) htag

theorem tagWay_eq_none {c : DistCache} {d : Nat} (h : ∀ w, (c.slot d w).tag ≠ some d) : c.tagWay d = none :=
  List.find?_eq_none.mpr fun w _ hw => h w (beq_iff_eq.mp hw)

section Drop

variable {data : List Byte} {s : State} (hlen : data.length = 1) (hbus : s.cPort.busOff = false)
include hlen hbus

theorem gives_distDrop_unknown (hd : 31 < byteAt data 0) :
    Gives (.distDrop data) s (raiseFault (badMessage idDistDrop 0) s) := by
  show execDistDrop data s = _
  rw [execDistDrop, lengthIs, hlen, beq_self_eq_true, receiveC_ok _ _ _ hbus, if_pos hd]
  rfl

theorem gives_distDrop_absent (hd : byteAt data 0 ≤ 31) (hway : s.cache.tagWay (byteAt data 0) = none) :
    Gives (.distDrop data) s s := by
  show execDistDrop data s = _
  rw [execDistDrop, lengthIs, hlen, beq_self_eq_true, receiveC_ok _ _ _ hbus, if_neg hd.not_gt, hway]
  rfl

theorem gives_distDrop_found {w : Bool} (hd : byteAt data 0 ≤ 31) (hway : s.cache.tagWay (byteAt data 0) = some w) :
    Gives (.distDrop data) s
      (if s.cache.locked w && s.cache.protect then raiseFault (requestRefused idDistDrop (some (byteAt data 0))) s
       else { s with cache := s.cache.setSlot (byteAt data 0) w (dropSlot (s.cache.slot (byteAt data 0) w)) }) := by
  show execDistDrop data s = _
  rw [execDistDrop, lengthIs, hlen, beq_self_eq_true, receiveC_ok _ _ _ hbus, if_neg hd.not_gt, hway]
  exact (apply_ite done _ _ _).symm

end Drop

/-! ## DIST_CLEAR and DIST_LOCK (R79, R80) -/

theorem gives_distClear {data : List Byte} {s : State} (hlen : data.length = 0) (hbus : s.cPort.busOff = false) :
    Gives (.distClear data) s
      { s with cache := s.cache.mapSlots fun w sl => if s.cache.locked w && s.cache.protect then sl else dropSlot sl } := by
  show execDistClear data s = _
  rw [execDistClear, lengthIs, hlen, beq_self_eq_true, receiveC_ok _ _ _ hbus]
  rfl

theorem gives_distLock {data : List Byte} {s : State} (hlen : data.length = 1) (hbus : s.cPort.busOff = false) :
    Gives (.distLock data) s
      { s with cache := applyLock (byteAt data 0 % 4) (bitAt data 0 2) (bitAt data 0 3) (bitAt data 0 4) s.cache } := by
  show execDistLock data s = _
  rw [execDistLock, lengthIs, hlen, beq_self_eq_true, receiveC_ok _ _ _ hbus]
  rfl

/-- A slot under the new settings: an invalid one not locked under the new level has no tag. -/
theorem get_applyLock (level : Nat) (protect way0 way1 : Bool) (c : DistCache) (i : Fin 8) :
    (applyLock level protect way0 way1 c).slots.get i =
      if (c.slots.get i).valid = false ∧ ¬(min level 2 = 2 ∨ (min level 2 = 1 ∧ i.val % 2 = 0)) then
        { c.slots.get i with tag := none }
      else c.slots.get i := by
  rw [applyLock, get_mapSlots]
  refine if_congr ?_ rfl rfl
  rw [← lockedUnder_wayOfIndex_iff (Nat.min_le_right level 2), Bool.and_eq_true, Bool.not_eq_true', Bool.not_eq_true',
    Bool.not_eq_true]

/-! ## REQUEST_TIMER_EXPIRY (R71) -/

theorem gives_requestTimerExpiry_again {s : State} {r : DistRequest} (hr : s.cache.request = some r)
    (hsends : r.sends < Config.requestSends) :
    Gives .requestTimerExpiry s
      (placeDistRequest r.id
        { s with cache := { s.cache with request := some { r with sends := r.sends + 1, timer := 0 } } }) := by
  show execRequestTimerExpiry s = _
  simp only [execRequestTimerExpiry, hr, if_pos hsends]
  rfl

theorem gives_requestTimerExpiry_givenUp {s : State} {r : DistRequest} (hr : s.cache.request = some r)
    (hsends : ¬r.sends < Config.requestSends) :
    Gives .requestTimerExpiry s
      (raiseFault (itemFault .distUnavailable (.distCause r.id .unanswered))
        { s with cache := { s.cache with request := none, failed := failedAdd r.id s.cache.failed } }) := by
  show execRequestTimerExpiry s = _
  simp only [execRequestTimerExpiry, hr, if_neg hsends]
  rfl

end Sys2Proof.Machine

namespace Sys2Proof.Proofs

open Sys2Proof.Machine

/-- Settles O27: the invariant makes the hit's way the only one, and the row check bytes decide between hit and parity error; a miss
by whether its id has failed or is asked for. -/
theorem lookupHitsOrMisses : Obligations.LookupHitsOrMisses := by
  refine ⟨fun values => ⟨rfl, fun r bit hr => testBit_rowChecks_iff values bit hr⟩, fun d sequence s hinv => ?_⟩
  refine ⟨fun w ⟨hway, hvalid, htag⟩ => ?hits, fun hnone => ?misses, lookupMiss_diag d s, fun hknown => ?known,
    fun hfailed hasked => ?unknown⟩
  case hits =>
    have hfound := hitWay_eq_some hinv hway hvalid htag
    refine ⟨fun hagree => lookup_of_agreeing sequence hfound hagree, fun hdiffer => ?_⟩
    have hmissed := lookup_of_disagreeing sequence hfound hdiffer
    rw [lookupParity_eq] at hmissed
    exact hmissed
  case misses => exact lookup_of_no_hit sequence (hitWay_eq_none hnone)
  case known => rw [lookupMiss, missRequest_known hknown]; rfl
  case unknown => rw [lookupMiss, missRequest_unknown hfailed hasked]; rfl

/-- Settles O25: DIST_DROP by the way that holds the tag, and DIST_CLEAR and DIST_LOCK slot by slot. -/
theorem dropClearAndLock : Obligations.DropClearAndLock := by
  intro data s hbus
  refine ⟨fun hlen => ⟨fun hd => gives_distDrop_unknown hlen hbus hd,
    fun hd habsent => gives_distDrop_absent hlen hbus hd (tagWay_eq_none habsent),
    fun hd hinv w htag => ⟨?refused, ?dropped⟩⟩, fun hlen => ?clear, fun hlen => ?lock⟩
  case refused =>
    intro ⟨hlocked, hprotect⟩
    have hgives := gives_distDrop_found hlen hbus hd (tagWay_eq_some hinv htag)
    rwa [hlocked, hprotect, Bool.and_self, if_pos rfl] at hgives
  case dropped =>
    intro hfree
    have hgives := gives_distDrop_found hlen hbus hd (tagWay_eq_some hinv htag)
    have hnot : ¬(s.cache.locked w && s.cache.protect) = true := by
      rcases hfree with h | h <;> simp [h]
    rw [if_neg hnot] at hgives
    refine ⟨_, hgives, rfl, fun i => (get_setSlot s.cache _ w _ i).trans ?_⟩
    split
    next hi => subst hi; rfl
    next => rfl
  case clear =>
    refine ⟨_, gives_distClear hlen hbus, rfl, fun i => (get_mapSlots s.cache _ i).trans ?_⟩
    exact if_congr (by rw [Bool.and_eq_true, and_comm]) rfl rfl
  case lock => exact ⟨_, gives_distLock hlen hbus, rfl, fun i => get_applyLock _ _ _ _ s.cache i⟩

/-- Settles O26: the number of sends decides. -/
theorem requestTimerSendsAgainOrGivesUp : Obligations.RequestTimerSendsAgainOrGivesUp := by
  refine fun s r hr => ⟨fun hfew => gives_requestTimerExpiry_again hr hfew, fun hthird => ?_⟩
  exact ⟨failedAdd r.id s.cache.failed, fun d => mem_failedAdd d r.id s.cache.failed,
    gives_requestTimerExpiry_givenUp hr hthird.not_gt⟩

end Sys2Proof.Proofs
end

section
/-! SUPPORT. The shading zones of a build (Chapter 5) and the completion of its commit (R93, R127): what each operation does, in the
order of the model's definitions, and then the proofs of the statements. -/

namespace Sys2Proof.Machine

/-! ## Slots at a commit (R127) -/

/-- A STORED slot always passes the first test of `freeIfUnused`, so only its holders decide. -/
theorem loseNewest_eq {sl : FrameSlot} (hok : sl.StateOk) :
    loseNewest sl =
      if sl.newest = true then
        if sl.holders = noHolders then { sl with state := .free, newest := false, sequence := none }
        else { sl with newest := false }
      else sl := by
  unfold loseNewest
  split
  next hnewest =>
    have hstored : sl.state = .stored := by
      cases hstate : sl.state with
      | stored => rfl
      | free | building => simp [FrameSlot.StateOk, hstate, hnewest] at hok
    by_cases hheld : sl.holders = noHolders
    · simp [freeIfUnused, hstored, hheld]
    · simp [freeIfUnused, hheld]
  next => rfl

theorem slot_commitSlot (st : FrameStore) (i j : Fin 6) (sequence : Nat) :
    (st.commitSlot i sequence).slot j =
      if j = i then { st.slot i with state := .stored, newest := true, holders := noHolders, sequence := some sequence }
      else loseNewest (st.slot j) := by
  rw [FrameStore.commitSlot]
  split
  next h => rw [h, slot_setSlot_self]
  next h => rw [slot_setSlot_ne h, slot_mapSlots]

theorem slot_writeMemory (st : FrameStore) (i j : Fin 6) (write : FrameMemory → FrameMemory) :
    (st.writeMemory i write).slot j =
      if j = i then { st.slot i with memory := write (st.slot i).memory } else st.slot j := by
  rw [FrameStore.writeMemory]
  split
  next h => rw [h, slot_setSlot_self]
  next h => rw [slot_setSlot_ne h]

/-- The store with the header write done and the newest mark moved to the build's slot. -/
def FrameStore.afterHeaderWrite (st : FrameStore) (b : Build) (f : Frame) : FrameStore :=
  (st.writeMemory b.slot fun m => { m with header := f.header }).commitSlot b.slot b.sequence

/-- Only the slot table changes. -/
theorem afterHeaderWrite_eq (st : FrameStore) (b : Build) (f : Frame) :
    st.afterHeaderWrite b f = { st with slots := (st.afterHeaderWrite b f).slots } := rfl

theorem slot_afterHeaderWrite (st : FrameStore) (b : Build) (f : Frame) (i : Fin 6) :
    (st.afterHeaderWrite b f).slot i =
      if i = b.slot then
        { st.slot i with
          state := .stored, newest := true, holders := noHolders, sequence := some b.sequence
          memory := { (st.slot i).memory with header := f.header } }
      else loseNewest (st.slot i) := by
  rw [FrameStore.afterHeaderWrite, slot_commitSlot]
  split
  next h => rw [h, slot_writeMemory, if_pos rfl]
  next h => rw [slot_writeMemory, if_neg h]

/-! ## From camera angles to lamp angles (R98 to R103) -/

theorem grownMargin_eq (c : CalSet) (t : TrackCopy) :
    grownMargin c t =
      marginH c t.cls +
        if t.age ≤ c.nat .coastStart then 0 else c.nat .coastGrow * ((t.age - c.nat .coastStart) / 20) := by
  unfold grownMargin
  split <;> rfl

theorem parallax_eq (offset : Int) (dw : Nat) :
    parallax offset dw = max (-500) (min 500 (roundDiv (offset * 3667) (64 * dw))) := clamp_eq _ (by decide)

/-- Parallax and margin keep the order of an extent's ends. -/
theorem zoneExtent_ordered (c : CalSet) (lamp : Side) {t : TrackCopy} (h : t.thetaL ≤ t.thetaR) :
    (zoneExtent c lamp t).1 ≤ (zoneExtent c lamp t).2 := by
  simp only [zoneExtent]
  omega

/-! ## From lamp angles to segments (R104 to R107) -/

theorem columnOf_eq (z : Int) : (columnOf z : Int) = max 0 (min 39 ((z + 1000) / 50)) := by
  rw [columnOf, clamp_eq _ (by decide), floorDiv, Int.toNat_of_nonneg (by omega)]
  rfl

theorem columnOf_le_last (z : Int) : columnOf z ≤ 39 := by
  have h := columnOf_eq z
  omega

theorem columnOf_mono {z z' : Int} (h : z ≤ z') : columnOf z ≤ columnOf z' := by
  have hz := columnOf_eq z
  have hz' := columnOf_eq z'
  omega

/-- Left of the matrix's right edge, the cut at column 39 does not tell. -/
theorem columnOf_le_iff {z : Int} (hz : z < 1000) (col : Nat) : columnOf z ≤ col ↔ z < -950 + 50 * (col : Int) := by
  have h := columnOf_eq z
  omega

/-- From the matrix's left edge on, the cut at column 0 does not tell. -/
theorem le_columnOf_iff {z : Int} (hz : -1000 ≤ z) {col : Nat} (hcol : col < 40) :
    col ≤ columnOf z ↔ -1000 + 50 * (col : Int) ≤ z := by
  have h := columnOf_eq z
  omega

theorem zoneColumns_eq_some_iff (extent : Int × Int) (cL cR : Nat) :
    zoneColumns extent = some (cL, cR) ↔
      -1000 ≤ extent.2 ∧ extent.1 < 1000 ∧ columnOf extent.1 = cL ∧ columnOf extent.2 = cR := by
  simp [zoneColumns, and_assoc]

/-- A column of the matrix is taken exactly when the extent touches its angles. -/
theorem zoneColumns_covers_iff (extent : Int × Int) {col : Nat} (hcol : col < 40) :
    (∃ cL cR, zoneColumns extent = some (cL, cR) ∧ cL ≤ col ∧ col ≤ cR) ↔
      extent.1 < -950 + 50 * (col : Int) ∧ -1000 + 50 * (col : Int) ≤ extent.2 := by
  simp only [zoneColumns_eq_some_iff]
  constructor
  · rintro ⟨_, _, ⟨hright, hleft, rfl, rfl⟩, hcL, hcR⟩
    exact ⟨(columnOf_le_iff hleft col).mp hcL, (le_columnOf_iff hright hcol).mp hcR⟩
  · intro ⟨hcL, hcR⟩
    have hleft : extent.1 < 1000 := by omega
    have hright : -1000 ≤ extent.2 := by omega
    exact ⟨_, _, ⟨hright, hleft, rfl, rfl⟩, (columnOf_le_iff hleft col).mpr hcL, (le_columnOf_iff hright hcol).mpr hcR⟩

theorem zoneColumns_ordered {extent : Int × Int} (h : extent.1 ≤ extent.2) {cL cR : Nat}
    (hcols : zoneColumns extent = some (cL, cR)) : cL ≤ cR ∧ cR ≤ 39 := by
  obtain ⟨-, -, rfl, rfl⟩ := (zoneColumns_eq_some_iff extent cL cR).mp hcols
  exact ⟨columnOf_mono h, columnOf_le_last _⟩

theorem mem_zoneRows (c : CalSet) (top : Int) (r : Nat) :
    r ∈ zoneRows c top ↔
      (r = 0 ∧ c.get .rowEdge0 < top) ∨ (r = 1 ∧ c.get .rowEdge1 < top) ∨ (r = 2 ∧ c.get .rowEdge2 < top) := by
  rw [zoneRows, List.mem_filter, decide_eq_true_iff]
  have hrow : r ∈ [0, 1, 2] ↔ r = 0 ∨ r = 1 ∨ r = 2 := by simp
  rw [hrow, or_and_right, or_and_right]
  refine or_congr (and_congr_right ?_) (or_congr (and_congr_right ?_) (and_congr_right ?_)) <;>
    (rintro rfl; exact Iff.rfl)

theorem zoneLevel_eq (c : CalSet) (cls : TrackClass) :
    zoneLevel c cls = if cls = .sign then c.nat .signLevel else c.nat .shadeLevel := by
  cases cls <;> rfl

theorem hasShoulders_iff (cls : TrackClass) : hasShoulders cls = true ↔ cls = .oncoming ∨ cls = .preceding := by
  rw [hasShoulders, Bool.or_eq_true, beq_iff_eq, beq_iff_eq]

theorem zoneOf_isSome_iff (c : CalSet) (snap : Snapshot) (lamp : Side) (t : TrackCopy) :
    (zoneOf c snap lamp t).isSome = true ↔
      (zoneColumns (zoneExtent c lamp t)).isSome = true ∧ zoneRows c (zoneTop c snap t) ≠ [] := by
  unfold zoneOf
  split
  next hcols => simp [hcols]
  next hrows => simp [hrows]
  next hcols hrows => simpa [hcols] using hrows

/-- The fields of a zone. -/
theorem zoneOf_fields {c : CalSet} {snap : Snapshot} {lamp : Side} {t : TrackCopy} {z : Zone}
    (h : zoneOf c snap lamp t = some z) :
    zoneColumns (zoneExtent c lamp t) = some (z.cL, z.cR) ∧ z.rows = zoneRows c (zoneTop c snap t) ∧
      z.level = zoneLevel c t.cls ∧
      (z.leftShoulder = if (t.cls = .oncoming ∨ t.cls = .preceding) ∧ 1 ≤ z.cL then some (z.cL - 1) else none) ∧
      (z.rightShoulder = if (t.cls = .oncoming ∨ t.cls = .preceding) ∧ z.cR ≤ 38 then some (z.cR + 1) else none) := by
  unfold zoneOf at h
  split at h
  next => cases h
  next => cases h
  next hcols _ =>
    obtain rfl := Option.some.inj h
    refine ⟨hcols, rfl, rfl, ?_, ?_⟩ <;> simp only [← hasShoulders_iff, Bool.and_eq_true, decide_eq_true_iff]

/-! ## The commit's messages (R93, R170, R176, R177) -/

theorem darkColumns_getElem? (values : List Nat) (row : Nat) {col : Nat} (hcol : col < 40) :
    (darkColumns values row)[col]? = some (decide (values.getD (row * 40 + col) 0 < 32)) := by
  simp [darkColumns, hcol, Config.litThreshold]

theorem litMapOf_maps_length (f : Frame) : (litMapOf f).maps.length = 6 := rfl

theorem litMapOf_marks (f : Frame) {r col : Nat} (hr : r < 3) (hcol : col < 40) :
    ((litMapOf f).maps[r]?.bind (·[col]?)) = some (decide (f.left.getD (r * 40 + col) 0 < 32)) ∧
      ((litMapOf f).maps[3 + r]?.bind (·[col]?)) = some (decide (f.right.getD (r * 40 + col) 0 < 32)) := by
  have hrow : r = 0 ∨ r = 1 ∨ r = 2 := by omega
  rcases hrow with rfl | rfl | rfl <;> exact ⟨darkColumns_getElem? _ _ hcol, darkColumns_getElem? _ _ hcol⟩

theorem commitNotices_diag (h : FrameHeader) (previous : Mirror) (s : State) :
    (commitNotices h previous s).diag =
      { s.diag with
        notices :=
          s.diag.notices ||| (if h.mode = previous.mode then 0 else 1#8) |||
            (if h.reason = previous.reason then 0 else 2#8) } := by
  simp only [commitNotices]
  split <;> split <;> simp [raiseNotice_eq, NoticeKind.bit, NoticeKind.position]

theorem commitNotices_vPort (h : FrameHeader) (previous : Mirror) (s : State) :
    (commitNotices h previous s).vPort = s.vPort := by simp

theorem commitNotices_operating (h : FrameHeader) (previous : Mirror) (s : State) :
    (commitNotices h previous s).operating = s.operating := by simp

/-- A notice is raised on the diagnostic unit and the C-port, whatever the store and the builder hold. -/
theorem raiseNotice_with_commit (k : NoticeKind) (s : State) (st : FrameStore) (bl : PatternBuilder) :
    raiseNotice k { s with store := st, builder := bl } = { raiseNotice k s with store := st, builder := bl } := by
  simp only [raiseNotice_eq]

theorem commitNotices_with_commit (h : FrameHeader) (previous : Mirror) (s : State) (st : FrameStore) (bl : PatternBuilder) :
    commitNotices h previous { s with store := st, builder := bl } =
      { commitNotices h previous s with store := st, builder := bl } := by
  simp only [commitNotices]
  split <;> split <;> simp only [raiseNotice_with_commit]

theorem statusWith_asStands (atCommit : Bool) (header : FrameHeader) (sel : Selection) (roadClass : RoadClass)
    (source : CurvatureSource) (request : DriverRequest) (s : State) :
    (statusWith atCommit header sel roadClass source request s).AsStands s := by
  simp [StatusReport.AsStands, statusWith, reportedSupply]

/-! ## COMMIT_HEADER_WRITE_DONE (R93, R127) -/

/-- The state with the commit complete, before its port access is released. -/
def afterCommit (b : Build) (f : Frame) (s : State) : State :=
  commitStatus f.header b.snapshot
    { commitNotices f.header b.snapshot.previous s with
      store := s.store.afterHeaderWrite b f
      builder := { s.builder with phase := .idle, mirror := frameToMirror f }
      vPort := { s.vPort with litmap := some (litMapOf f) } }

theorem gives_commitHeaderWriteDone {s : State} {b : Build} {f : Frame} {n : Nat} {w : PortUse}
    (hphase : s.builder.phase = .committing b f n) (hbusy : s.store.busy = some w) (hr : w.requester = .commit)
    (ha : w.access = .headerWrite) : Gives .commitHeaderWriteDone s (releasePort (afterCommit b f s)) := by
  obtain ⟨requester, access, wanted, found⟩ := w
  obtain rfl : requester = .commit := hr
  obtain rfl : access = .headerWrite := ha
  show execCommitHeaderWriteDone s = _
  simp only [execCommitHeaderWriteDone, FrameStore.accessOf, hbusy, hphase, commitNotices_with_commit, if_true]
  rw [afterCommit, ← commitNotices_vPort f.header b.snapshot.previous s]
  rfl

/-- What the commit leaves: every block but the builder, the store, the diagnostic unit and the ports. -/
theorem afterCommit_frame (b : Build) (f : Frame) (s : State) :
    (afterCommit b f s).tracks = s.tracks ∧ (afterCommit b f s).motion = s.motion ∧
      (afterCommit b f s).selector = s.selector ∧ (afterCommit b f s).cache = s.cache ∧
      (afterCommit b f s).linkL = s.linkL ∧ (afterCommit b f s).linkR = s.linkR ∧
      (afterCommit b f s).operating = s.operating ∧ (afterCommit b f s).reader = s.reader ∧
      (afterCommit b f s).vision = s.vision ∧ (afterCommit b f s).working = s.working ∧
      (afterCommit b f s).committed = s.committed ∧ (afterCommit b f s).pending = s.pending ∧
      (afterCommit b f s).freeIndex = s.freeIndex := by
  simp [afterCommit, commitStatus]

end Sys2Proof.Machine

namespace Sys2Proof.Proofs

open Sys2Proof.Machine

/-- Settles O33: the statement's angles are the model's extent and top, in which each clause is a lemma of its own. -/
theorem zoneCoversWhatItsExtentTouches : Obligations.ZoneCoversWhatItsExtentTouches := by
  intro c snap lamp t _ dw offset delta deltaV growth pitch zL zR top hθ
  have hdelta : parallax (lampOffset c lamp) (workingDistance (c.nat .dFar) t.dist) = delta := by
    cases lamp <;> exact parallax_eq _ _
  have hextent : zoneExtent c lamp t = (zL, zR) := by
    simp only [zoneExtent, hdelta, grownMargin_eq]
    rfl
  have htop : zoneTop c snap t = top := by
    have hpitch : cabPitch snap = pitch := by
      simp only [cabPitch, pitch]
      cases snap.motion <;> rfl
    rw [zoneTop, hpitch, parallax_eq]
    rfl
  have hordered := zoneExtent_ordered c lamp hθ
  have hmargins : ∀ cls, t.cls = cls → marginH c t.cls = marginH c cls ∧ marginV c t.cls = marginV c cls :=
    fun _ hcls => hcls ▸ ⟨rfl, rfl⟩
  refine ⟨hmargins .oncoming, hmargins .preceding, hmargins .sign, ?ordered, ?columns, ?rows,
    zoneOf_isSome_iff c snap lamp t, ?zone⟩
  case ordered => rwa [hextent] at hordered
  case columns =>
    rw [hextent]
    exact fun col hcol => zoneColumns_covers_iff (zL, zR) hcol
  case rows =>
    rw [htop]
    exact mem_zoneRows c top
  case zone =>
    intro z hz
    obtain ⟨hcols, hrows, hlevel, hshoulderL, hshoulderR⟩ := zoneOf_fields hz
    obtain ⟨hcL, hcR⟩ := zoneColumns_ordered hordered hcols
    have hnonempty := ((zoneOf_isSome_iff c snap lamp t).mp (Option.isSome_of_mem hz)).2
    exact ⟨hcols, hrows, hrows ▸ hnonempty, hcL, hcR, hlevel.trans (zoneLevel_eq c t.cls), hshoulderL, hshoulderR⟩

/-- Settles O31: the state before the release is `afterCommit`; the invariant makes the former newest slot STORED. -/
theorem commitHeaderWriteCompletesTheCommit : Obligations.CommitHeaderWriteCompletesTheCommit := by
  intro s b f n w hinv hphase hbusy hr ha
  obtain ⟨-, -, hok, -⟩ := hinv
  refine ⟨afterCommit b f s, gives_commitHeaderWriteDone hphase hbusy hr ha, rfl, rfl, fun i => ?slots,
    commitNotices_diag f.header b.snapshot.previous s,
    ⟨litMapOf f, rfl, rfl, litMapOf_maps_length f, fun r col hr hcol => litMapOf_marks f hr hcol⟩, ?status, rfl, rfl,
    afterCommit_frame b f s⟩
  case slots =>
    show (s.store.afterHeaderWrite b f).slot i = _
    rw [slot_afterHeaderWrite, loseNewest_eq (hok i)]
  case status =>
    exact ⟨_, rfl, rfl, rfl, commitNotices_operating f.header b.snapshot.previous s, rfl, rfl, rfl, rfl, rfl,
      rfl, statusWith_asStands _ _ _ _ _ _ _⟩

end Sys2Proof.Proofs
end

section
/-! SUPPORT. The drive budget of a build (Chapter 6, R119 to R122): what each operation does, in the order of the model's definitions,
and then the proof of the statement. -/

namespace Sys2Proof.Machine

/-! ## The effective budget (R119) -/

/-- A link UP with a temperature: the derated budget, which budget_min keeps from falling below 0. -/
theorem effectiveBudget_of_up {c : CalSet} {l : LampSnapshot} {t : Int} (hc : c.InRange) (hup : l.up = true)
    (ht : l.temp = some t) :
    (effectiveBudget c l : Int) =
      max (c.get .budgetMin) (c.get .budget - c.get .derate * max 0 (t - c.get .tKnee)) := by
  have hmin : 0 ≤ c.get .budgetMin := (hc.get .budgetMin).1
  simp only [effectiveBudget, hup, ht]
  exact Int.toNat_of_nonneg (hmin.trans (le_max_left _ _))

/-- A link DOWN, or without a temperature: the whole budget. -/
theorem effectiveBudget_of_not_up {c : CalSet} {l : LampSnapshot} (hc : c.InRange) (h : ∀ t, l.up = true → l.temp ≠ some t) :
    (effectiveBudget c l : Int) = c.get .budget := by
  have hbudget : effectiveBudget c l = c.nat .budget := by
    unfold effectiveBudget
    split
    next t hup ht => exact absurd ht (h t hup)
    next => rfl
  rw [hbudget]
  exact Int.toNat_of_nonneg (hc.get .budget).1

/-! ## The bands (R120) -/

theorem budgetBand_eq_red_iff (yellowBand beff sum : Nat) : budgetBand yellowBand beff sum = .red ↔ beff < sum := by
  unfold budgetBand
  split
  next hgreen => exact iff_of_false (by decide) (by omega)
  next =>
    split
    next hyellow => exact iff_of_false (by decide) (by omega)
    next hred => exact iff_of_true rfl (by omega)

theorem budgetBand_eq_yellow_iff (yellowBand beff sum : Nat) :
    budgetBand yellowBand beff sum = .yellow ↔ 0 < sum ∧ (beff : Int) - yellowBand < sum ∧ sum ≤ beff := by
  unfold budgetBand
  split
  next hgreen => exact iff_of_false (by decide) (by omega)
  next hlit =>
    split
    next hyellow => exact iff_of_true rfl (by omega)
    next hred => exact iff_of_false (by decide) (by omega)

/-! ## The values after the budget stage (R121, R122) -/

theorem budgetValues_red (beff : Nat) (values : List Nat) :
    budgetValues .red beff values = values.map fun v => v * beff / values.sum := rfl

theorem budgetValues_of_ne_red {band : BudgetBand} (beff : Nat) (values : List Nat) (h : band ≠ .red) :
    budgetValues band beff values = values := by
  cases band with
  | green | yellow => rfl
  | red => exact absurd rfl h

/-- Floors taken one by one lose at least what one floor of the sum loses. -/
theorem sum_map_floor_le (l : List Nat) (a d : Nat) : (l.map fun v => v * a / d).sum ≤ l.sum * a / d := by
  induction l with
  | nil => simp
  | cons v l ih =>
    rw [List.map_cons, List.sum_cons, List.sum_cons, Nat.add_mul]
    exact (Nat.add_le_add_left ih _).trans Nat.div_add_div_le_add_div

/-- Values scaled by `a` over their own sum sum to at most `a`. -/
theorem sum_scaled_le (values : List Nat) (a : Nat) : (values.map fun v => v * a / values.sum).sum ≤ a :=
  (sum_map_floor_le values a values.sum).trans (Nat.div_le_of_le_mul le_rfl)

theorem sum_budgetValues_le (yellowBand beff : Nat) (values : List Nat) :
    (budgetValues (budgetBand yellowBand beff values.sum) beff values).sum ≤ beff := by
  by_cases hred : budgetBand yellowBand beff values.sum = .red
  · rw [hred, budgetValues_red]
    exact sum_scaled_le values beff
  · rw [budgetValues_of_ne_red _ _ hred]
    exact Nat.le_of_not_lt (mt (budgetBand_eq_red_iff _ _ _).mpr hred)

/-! ## The frame (R123) -/

/-- A lamp's budget_clamped flag (Table 6-3). -/
def FrameHeader.clamped (h : FrameHeader) : Side → Bool
  | .left => h.clampedL
  | .right => h.clampedR

/-- A lamp's budget_yellow flag (Table 6-3). -/
def FrameHeader.yellow (h : FrameHeader) : Side → Bool
  | .left => h.yellowL
  | .right => h.yellowR

section BuildFrame
variable (c : CalSet) (snap : Snapshot) (workingCopy : Option (List Nat)) (sequence : Nat)

theorem buildFrame_values (lamp : Side) :
    (buildFrame c snap workingCopy sequence).values lamp = (lampResult c snap workingCopy lamp).values := by
  cases lamp <;> simp only [buildFrame, Frame.values]

theorem buildFrame_clamped (lamp : Side) :
    (buildFrame c snap workingCopy sequence).header.clamped lamp = true ↔ (lampResult c snap workingCopy lamp).band = .red := by
  cases lamp <;> simp only [buildFrame, FrameHeader.clamped, beq_iff_eq]

theorem buildFrame_yellow (lamp : Side) :
    (buildFrame c snap workingCopy sequence).header.yellow lamp = true ↔
      (lampResult c snap workingCopy lamp).band = .yellow := by
  cases lamp <;> simp only [buildFrame, FrameHeader.yellow, beq_iff_eq]

end BuildFrame

end Sys2Proof.Machine

namespace Sys2Proof.Proofs

open Sys2Proof.Machine

/-- Settles O35: with the lamp's result and its effective budget named, each clause is a lemma about the band or about the values
that the band leaves. -/
theorem lampSumStaysWithinItsBudget : Obligations.LampSumStaysWithinItsBudget := by
  intro c snap workingCopy sequence lamp hc f risen status budget effective clamped yellow
  let beff := effectiveBudget c status
  let band := budgetBand (c.nat .yellowBand) beff risen.sum
  have hbeff : (beff : Int) = effective := by
    simp only [effective]
    split
    next t hup ht => exact effectiveBudget_of_up hc hup ht
    next hnot => exact effectiveBudget_of_not_up hc hnot
  have hyellowBand : (c.nat .yellowBand : Int) = c.get .yellowBand := Int.toNat_of_nonneg (hc.get .yellowBand).1
  have hvalues : f.values lamp = budgetValues band beff risen := by
    rw [buildFrame_values, lampResult]
  have hclamped : clamped = true ↔ band = .red := by
    rw [show clamped = f.header.clamped lamp by cases lamp <;> rfl, buildFrame_clamped, lampResult]
  have hyellow : yellow = true ↔ band = .yellow := by
    rw [show yellow = f.header.yellow lamp by cases lamp <;> rfl, buildFrame_yellow, lampResult]
  rw [hvalues, hclamped, hyellow, ← hbeff, ← hyellowBand, Int.toNat_natCast]
  refine ⟨?sum, ?clamped, ?yellow, ?scaled, ?unchanged⟩
  case sum => exact_mod_cast sum_budgetValues_le _ _ risen
  case clamped => exact_mod_cast budgetBand_eq_red_iff _ _ risen.sum
  case yellow => exact_mod_cast budgetBand_eq_yellow_iff _ _ risen.sum
  case scaled => exact fun hred => by rw [hred, budgetValues_red]
  case unchanged =>
    exact fun hnot => budgetValues_of_ne_red _ _ fun hred => Bool.false_ne_true (hnot.symm.trans (hclamped.mpr hred))

end Sys2Proof.Proofs
end

section
/-! SUPPORT. The end of a transfer without success (Chapter 8, R129, R133, R152): what withdrawing a link's request, releasing its
incoming hold and abandoning its transfer do, in the order of the model's definitions, and then the proof of the statement. -/

namespace Sys2Proof.Machine

/-! ## A role's release (R129) -/

theorem dropRole_eq (x : Side) (r : LinkRole) (sl : FrameSlot) :
    dropRole x r sl =
      if sl.holders.has x r then
        if sl.state = .stored ∧ sl.newest = false ∧ sl.holders.put x r false = noHolders then
          { sl with state := .free, holders := sl.holders.put x r false, sequence := none }
        else { sl with holders := sl.holders.put x r false }
      else sl := rfl

@[simp] theorem freeIfUnused_memory (sl : FrameSlot) : (freeIfUnused sl).memory = sl.memory := by
  unfold freeIfUnused
  split <;> rfl

@[simp] theorem dropRole_memory (x : Side) (r : LinkRole) (sl : FrameSlot) : (dropRole x r sl).memory = sl.memory := by
  unfold dropRole
  split
  next => exact freeIfUnused_memory _
  next => rfl

/-! ## A link's request withdrawn (R133) -/

@[simp] theorem setWaiting_lastGranted (st : FrameStore) (r : Requester) (a : Option PortAccess) :
    (st.setWaiting r a).lastGranted = st.lastGranted := by
  cases r <;> rfl

theorem setWaiting_with_busy_self {st : FrameStore} {busy : Option PortUse} (h : st.busy = busy) (r : Requester)
    (a : Option PortAccess) : { st.setWaiting r a with busy := busy } = st.setWaiting r a := by
  subst h
  cases r <;> rfl

/-- Both of the definition's splits as one map over the access under way. -/
theorem withdrawLink_eq (st : FrameStore) (x : Side) :
    st.withdrawLink x =
      { st.setWaiting (linkRequester x) none with
        busy := st.busy.map fun w => if w.requester = linkRequester x then { w with wanted := false } else w } := by
  unfold FrameStore.withdrawLink
  cases hbusy : st.busy with
  | none => exact (setWaiting_with_busy_self hbusy _ _).symm
  | some w =>
    by_cases hr : w.requester = linkRequester x
    · simp only [hr, if_true, Option.map_some]
    · simp only [hr, if_false, Option.map_some, setWaiting_with_busy_self hbusy]

@[simp] theorem withdrawLink_slot (st : FrameStore) (x : Side) (i : Fin 6) : (st.withdrawLink x).slot i = st.slot i := by
  rw [withdrawLink_eq]
  exact congrArg (·.get i) (setWaiting_slots st (linkRequester x) none)

/-- A link whose access under way is no longer wanted asks for what it waits for, and nothing else. -/
theorem PortKept.linkAsks_eq {x : Side} {own : Option PortAccess} {s u : State} (h : PortKept x own s u) :
    u.store.linkAsks x = own := by
  obtain ⟨hwaiting, -, -, hbusy⟩ := h
  have hunwanted : (u.store.accessOf (linkRequester x)).filter (·.wanted) = none := by
    rw [FrameStore.accessOf, hbusy]
    cases s.store.busy with
    | none => rfl
    | some w => by_cases hr : w.requester = linkRequester x <;> simp [hr]
  rw [FrameStore.linkAsks, hwaiting, hunwanted, Option.map_none, Option.or_none]

/-! ## A matching reply (R148) -/

theorem matchedTransfer_eq_some {l : LampLink} {t : Transfer} (hup : l.state = .up) (ht : l.transfer = some t) :
    matchedTransfer l t.tag = some t := by
  simp [matchedTransfer, hup, ht]

theorem matchedTransfer_eq_none {l : LampLink} {tag : Nat} (h : l.state = .down ∨ ∀ t ∈ l.transfer, t.tag ≠ tag) :
    matchedTransfer l tag = none := by
  unfold matchedTransfer
  split
  next t hup ht =>
    obtain hdown | htag := h
    · exact absurd (hup.symm.trans hdown) (by decide)
    · exact if_neg (htag t ht)
  next => rfl

/-! ## A transfer abandoned -/

theorem abandonTransfer_store (x : Side) (s : State) :
    (abandonTransfer x s).store = (s.store.withdrawLink x).releaseIncoming x := by
  simp [abandonTransfer, dropAttempt]

theorem abandonTransfer_link (x : Side) (s : State) :
    (abandonTransfer x s).link x = { s.link x with transfer := none, waiting := none } := by
  simp [abandonTransfer, dropAttempt]

theorem abandonTransfer_link_otherSide (x : Side) (s : State) :
    (abandonTransfer x s).link (otherSide x) = s.link (otherSide x) := by
  cases x <;> rfl

theorem slot_abandonTransfer (x : Side) (s : State) (i : Fin 6) :
    (abandonTransfer x s).store.slot i = dropRole x .incoming (s.store.slot i) := by
  rw [abandonTransfer_store, FrameStore.releaseIncoming, slot_mapSlots, withdrawLink_slot]

theorem abandonTransfer_linkFrame (x : Side) (s : State) : LinkFrame x s (abandonTransfer x s) := by
  have hmemory (i : Fin 6) : ((abandonTransfer x s).store.slot i).memory = (s.store.slot i).memory := by
    rw [slot_abandonTransfer, dropRole_memory]
  simp [LinkFrame, abandonTransfer_link_otherSide, hmemory]

theorem abandonTransfer_samePorts (x : Side) (s : State) : SamePorts s (abandonTransfer x s) := by
  simp [SamePorts]

theorem abandonTransfer_incomingReleased (x : Side) (s : State) : IncomingReleased x s (abandonTransfer x s) :=
  fun i => (slot_abandonTransfer x s i).trans (dropRole_eq x .incoming _)

/-- Releasing the incoming hold changes the slot table alone, so the port is as the withdrawal leaves it. -/
theorem abandonTransfer_portKept (x : Side) (s : State) : PortKept x none s (abandonTransfer x s) := by
  have hport (r : Requester) : (abandonTransfer x s).store.waiting r = (s.store.setWaiting (linkRequester x) none).waiting r := by
    rw [abandonTransfer_store, withdrawLink_eq]
    cases r <;> rfl
  refine ⟨?own, ?others, ?lastGranted, ?busy⟩
  case own => rw [hport, waiting_setWaiting]
  case others => exact fun r hr => (hport r).trans (waiting_setWaiting_ne hr _ _)
  case lastGranted =>
    rw [abandonTransfer_store, withdrawLink_eq]
    exact setWaiting_lastGranted _ _ _
  case busy =>
    rw [abandonTransfer_store, withdrawLink_eq]
    rfl

/-! ## QUIT (R152) -/

section Quit
variable {x : Side} {bytes : List Byte} {tag : Nat} {s : State} (hframe : lampFrame bytes = some (.quit tag))
include hframe

theorem exec_quit_unmatched (hnone : matchedTransfer (s.link x) tag = none) : exec (.quit x bytes) s = .next s := by
  show execQuit x bytes s = _
  simp [execQuit, hframe, hnone]

theorem gives_quit_matched {t : Transfer} (hsome : matchedTransfer (s.link x) tag = some t) :
    Gives (.quit x bytes) s (abandonTransfer x s) := by
  show execQuit x bytes s = _
  simp [execQuit, hframe, hsome, done]

end Quit

end Sys2Proof.Machine

namespace Sys2Proof.Proofs

open Sys2Proof.Machine

/-- Settles O45: a QUIT is ignored or abandons the transfer as its tag matches or not, and each clause of the matching one is a lemma
about the abandoned transfer. -/
theorem quitAbandonsTheTransfer : Obligations.QuitAbandonsTheTransfer := by
  intro x bytes tag s hframe
  refine ⟨fun hignored => exec_quit_unmatched hframe (matchedTransfer_eq_none hignored), ?matched⟩
  rintro hup t ht rfl
  have hport := abandonTransfer_portKept x s
  exact ⟨abandonTransfer x s, gives_quit_matched hframe (matchedTransfer_eq_some hup ht), abandonTransfer_linkFrame x s,
    abandonTransfer_samePorts x s, abandonTransfer_incomingReleased x s, hport.linkAsks_eq, hport, abandonTransfer_link x s⟩

end Sys2Proof.Proofs
end

section
/-! SUPPORT. Clearing and masking (Chapter 9, R163, R168, R169): what CLEAR_FAULTS, CLEAR_NOTICES and NOTICE_MASK do, in the order of
the model's definitions, and then the proof of the statement. -/

namespace Sys2Proof.Machine

/-! ## Unmasking (R169) -/

theorem unmasksPending_iff (d : DiagUnit) (mask : BitVec 8) :
    unmasksPending d mask = true ↔ d.notices &&& d.mask &&& ~~~mask ≠ 0 := bne_iff_ne

/-- A NOTICE made under a new mask names every kind that is pending and unmasked by it. -/
theorem makeNotice_masked (mask : BitVec 8) (s : State) :
    makeNotice { s with diag := { s.diag with mask := mask } } =
      { s with
        diag := { s.diag with mask := mask }
        cPort := { s.cPort with notice := some (s.cPort.notice.getD 0 ||| (s.diag.notices &&& ~~~mask)) } } := rfl

/-! ## The three commands -/

section Clearing

variable {data : List Byte} {s : State} (hbus : s.cPort.busOff = false)
include hbus

theorem gives_clearFaults (hlen : data.length = 3) :
    Gives (.clearFaults data) s
      { s with diag := { s.diag with
          summary := s.diag.summary &&& ~~~(faultSetField data)
          capture := if bitAt data 2 0 then none else s.diag.capture } } := by
  show execClearFaults data s = _
  rw [execClearFaults, lengthIs, hlen, beq_self_eq_true, receiveC_ok _ _ _ hbus]
  rfl

theorem gives_clearNotices (hlen : data.length = 1) :
    Gives (.clearNotices data) s
      { s with diag := { s.diag with notices := s.diag.notices &&& ~~~(noticeSetField data) } } := by
  show execClearNotices data s = _
  rw [execClearNotices, lengthIs, hlen, beq_self_eq_true, receiveC_ok _ _ _ hbus]
  rfl

theorem exec_noticeMask (hlen : data.length = 1) :
    exec (.noticeMask data) s =
      if unmasksPending s.diag (noticeSetField data) then
        done (makeNotice { s with diag := { s.diag with mask := noticeSetField data } })
      else done { s with diag := { s.diag with mask := noticeSetField data } } := by
  show execNoticeMask data s = _
  rw [execNoticeMask, lengthIs, hlen, beq_self_eq_true, receiveC_ok _ _ _ hbus]

theorem gives_noticeMask_quiet (hlen : data.length = 1) (h : s.diag.notices &&& s.diag.mask &&& ~~~(noticeSetField data) = 0) :
    Gives (.noticeMask data) s { s with diag := { s.diag with mask := noticeSetField data } } :=
  (exec_noticeMask hbus hlen).trans (if_neg (mt (unmasksPending_iff _ _).mp (not_not_intro h)))

theorem gives_noticeMask_unmasking (hlen : data.length = 1)
    (h : s.diag.notices &&& s.diag.mask &&& ~~~(noticeSetField data) ≠ 0) :
    Gives (.noticeMask data) s
      { s with
        diag := { s.diag with mask := noticeSetField data }
        cPort := { s.cPort with
          notice := some (s.cPort.notice.getD 0 ||| (s.diag.notices &&& ~~~(noticeSetField data))) } } := by
  rw [← makeNotice_masked]
  exact (exec_noticeMask hbus hlen).trans (if_pos ((unmasksPending_iff _ _).mpr h))

end Clearing

end Sys2Proof.Machine

namespace Sys2Proof.Proofs

open Sys2Proof.Machine

/-- Settles O47: each command is accepted at its length, and NOTICE_MASK makes a NOTICE or none as it unmasks a pending kind. -/
theorem clearFaultsClearNoticesAndMask : Obligations.ClearFaultsClearNoticesAndMask :=
  fun _ _ hbus => ⟨fun hlen => gives_clearFaults hbus hlen, fun hlen =>
    ⟨gives_clearNotices hbus hlen, fun hnone => gives_noticeMask_quiet hbus hlen hnone,
      fun hsome => gives_noticeMask_unmasking hbus hlen hsome⟩⟩

end Sys2Proof.Proofs
end

section
/-! SUPPORT. The calibration parameters, CAL_SET, CAL_DONE and power-on reset (Chapter 10): what each operation does, in the order of
the model's definitions, and then the proofs of the statements. -/

namespace Sys2Proof.Machine

/-! ## The parameters (Table 10-7) -/

/-- The statement's table is the model's parameters in order, each with its id, range and default. -/
theorem calibrationRows_eq :
    calibrationRowsLow ++ calibrationRowsHigh = Param.all.map fun p => (p.id, p, p.range.1, p.range.2, p.default) := rfl

theorem Param.all_getElem?_index (p : Param) : Param.all[p.index.val]? = some p := by cases p <;> rfl

theorem Param.index_inj {p q : Param} (h : p.index = q.index) : p = q := by
  have hp := Param.all_getElem?_index p
  rw [h, Param.all_getElem?_index q] at hp
  exact (Option.some.inj hp).symm

@[simp] theorem paramOfId_id (p : Param) : paramOfId p.id = some p := by
  rw [paramOfId, Param.id, if_neg (Nat.succ_ne_zero _), Nat.add_sub_cancel, Param.all_getElem?_index]

theorem paramOfId_eq_none {n : Nat} (h : n = 0 ∨ 49 < n) : paramOfId n = none := by
  unfold paramOfId
  split
  next => rfl
  next hn => exact List.getElem?_eq_none (Nat.le_sub_one_of_lt (h.resolve_left hn))

theorem CalSet.get_put (c : CalSet) (p q : Param) (v : Int) : (c.put p v).get q = if q = p then v else c.get q := by
  split
  next h => rw [h, CalSet.get_put_self]
  next h => exact CalSet.get_put_ne (mt Param.index_inj h) c v

theorem get_defaultCal (p : Param) : defaultCal.get p = p.default := by
  simp [defaultCal, CalSet.get, Vector.get_eq_getElem, List.getD_eq_getElem?_getD, Param.all_getElem?_index]

theorem calibrationOk : CalibrationOk := by
  refine ⟨?rows, ?complete, CalSet.get_put, fun _ _ => rfl, ?config, ?run⟩
  case rows =>
    intro row hrow
    rw [calibrationRows_eq] at hrow
    obtain ⟨p, -, rfl⟩ := List.mem_map.mp hrow
    exact ⟨rfl, rfl, rfl⟩
  case complete =>
    intro p
    rw [calibrationRows_eq]
    exact ⟨_, List.mem_map_of_mem p.mem_all, rfl⟩
  case config =>
    intro s hop
    simp only [activeCal, hop]
  case run =>
    intro s c hc
    have hcommitted : committedCal s = c := by simp only [committedCal, hc, Option.getD_some]
    exact ⟨hcommitted, fun hop => by simp only [activeCal, hop, hcommitted]⟩

/-! ## The cross-checks (Table 10-8) -/

theorem crossCheck_eq_none_iff (c : CalSet) :
    crossCheck c = none ↔
      c.get .rowEdge0 < c.get .rowEdge1 ∧ c.get .rowEdge1 < c.get .rowEdge2 ∧ c.get .rowEdge2 < c.get .rowEdgeTop ∧
        c.get .adbOff < c.get .adbOn ∧ c.get .yellowBand < c.get .budget ∧ c.get .budgetMin ≤ c.get .budget ∧
        c.get .coastStart < c.get .trackExpiry ∧ (c.get .bendStep ≤ c.get .bendMax ∨ c.get .bendMax = 0) := by
  simp only [crossCheck, ite_eq_iff, reduceCtorEq, and_false, false_or, not_not, and_true]

/-- The parameter reported is that of the first check that fails; it is the last check's when the others hold. -/
theorem id_of_crossCheck {c : CalSet} {p : Param} (h : crossCheck c = some p) :
    p.id =
      if ¬c.get .rowEdge0 < c.get .rowEdge1 then 39
      else if ¬c.get .rowEdge1 < c.get .rowEdge2 then 40
      else if ¬c.get .rowEdge2 < c.get .rowEdgeTop then 41
      else if ¬c.get .adbOff < c.get .adbOn then 15
      else if ¬c.get .yellowBand < c.get .budget then 48
      else if ¬c.get .budgetMin ≤ c.get .budget then 45
      else if ¬c.get .coastStart < c.get .trackExpiry then 4
      else 10 := by
  unfold crossCheck at h
  split_ifs at h ⊢ <;> cases h <;> rfl

/-! ## The power-on values (R130, R183) -/

theorem blockValues_dark (k : Fin 5) : blockValues darkValues k = List.replicate 24 0 := by
  have hdark (i : Nat) : darkValues.getD i 0 = 0 := by
    simp only [darkValues, List.getD_eq_getElem?_getD, List.getElem?_replicate]
    split <;> rfl
  simp only [blockValues, hdark, List.map_const', List.length_range]

/-- Every segment of the LIMP frame is 0, block by block. -/
theorem block_limpFrame (x : Side) (k : Fin 5) : (frameToMemory limpFrame).block x k = List.replicate 24 0 := by
  cases x <;> simp [FrameMemory.block, frameToMemory, limpFrame, Vector.get_eq_getElem, blockValues_dark]

theorem get_resetCache_slots (i : Fin 8) : resetCache.slots.get i = resetCacheSlot := by
  simp [resetCache, Vector.get_eq_getElem]

theorem slot_resetStore (i : Fin 6) :
    resetStore.slot i = if i = 0 then limpSlot else freeSlot (frameToMemory limpFrame) := by
  simp [resetStore, FrameStore.slot, Vector.get_eq_getElem]

/-! ## The STATUS of a change of operating state (R177) -/

theorem mem_slotNumbers (i : Fin 6) : i ∈ slotNumbers := by fin_cases i <;> decide

theorem newestHeader_of_unique {st : FrameStore} {i : Fin 6} (hi : (st.slot i).newest = true)
    (honly : ∀ j, (st.slot j).newest = true → j = i) : newestHeader st = (st.slot i).memory.header := by
  have hsome : st.newest.isSome = true := List.find?_isSome.mpr ⟨i, mem_slotNumbers i, hi⟩
  obtain ⟨n, hn⟩ := Option.isSome_iff_exists.mp hsome
  have hnewest : (st.slot n).newest = true := List.find?_some (p := fun j => (st.slot j).newest) hn
  obtain rfl : n = i := honly n hnewest
  simp only [newestHeader, hn]

/-- The STATUS placed reports the state it is placed in, which the placing changes in the C-port's queue alone. -/
theorem changeStatus_ofChange (s : State) :
    ∃ r ∈ (changeStatus s).cPort.status, r.operating = s.operating ∧ r.OfChange (changeStatus s) := by
  refine ⟨_, rfl, rfl, ?_, rfl, fun i hi honly => newestHeader_of_unique hi honly, rfl, rfl, rfl, rfl⟩
  exact statusWith_asStands _ _ _ _ _ _ s

/-! ## CAL_SET (R179) -/

theorem recheckFlash_active {flashMax n : Nat} {m : ModeSelector} (h : m.flash = .active n) :
    recheckFlash flashMax m = if flashMax ≤ n then spendFlash m else m := by
  simp only [recheckFlash, h]

theorem recheckFlash_inactive (flashMax : Nat) {m : ModeSelector} (h : ∀ n, m.flash ≠ .active n) :
    recheckFlash flashMax m = m := by
  unfold recheckFlash
  split
  next n hn => exact absurd hn (h n)
  next => rfl

/-- The mode selector after a value is put under a parameter: only a new flash_max is held against the flash (R42). -/
def selectorAfterPut (p : Param) (value : Int) (m : ModeSelector) : ModeSelector :=
  if p = .flashMax then recheckFlash value.toNat m else m

theorem selectorAfterPut_active {p : Param} {value : Int} {m : ModeSelector} {n : Nat} (h : m.flash = .active n) :
    selectorAfterPut p value m = if p = .flashMax ∧ value ≤ n then spendFlash m else m := by
  rw [selectorAfterPut, recheckFlash_active h, ite_and]
  simp only [Int.toNat_le]

theorem selectorAfterPut_inactive (p : Param) (value : Int) {m : ModeSelector} (h : ∀ n, m.flash ≠ .active n) :
    selectorAfterPut p value m = m := by
  rw [selectorAfterPut, recheckFlash_inactive _ h, ite_self]

theorem writeParam_eq (p : Param) (v : Int) (s : State) :
    writeParam p v s =
      let value := clamp p.range.1 p.range.2 v
      let written := { s with working := s.working.put p value, selector := selectorAfterPut p value s.selector }
      if value = v then written else raiseNotice .calClamped written := by
  have hselector :
      (if p = .flashMax then recheckFlash ((s.working.put p (p.clampValue v)).nat .flashMax) s.selector else s.selector) =
        selectorAfterPut p (p.clampValue v) s.selector := by
    unfold selectorAfterPut
    split
    next hp => rw [hp, CalSet.nat, CalSet.get_put_self]
    next => rfl
  rw [writeParam, hselector]
  rfl

section CalSet

variable {data : List Byte} {s : State} (hlen : data.length = 3) (hbus : s.cPort.busOff = false)
include hlen hbus

theorem gives_calSet_config {p : Param} (hid : byteAt data 0 = p.id) (hop : s.operating = .config) :
    Gives (.calSet data) s (writeParam p (signed16 data 1) s) := by
  show execCalSet data s = _
  simp only [execCalSet, lengthIs, hlen, beq_self_eq_true, receiveC_ok _ _ _ hbus, hid, paramOfId_id, hop]
  rfl

theorem gives_calSet_run {p : Param} (hid : byteAt data 0 = p.id) (hop : s.operating = .run) :
    Gives (.calSet data) s (raiseFault (requestRefused idCalSet (some p.id)) s) := by
  show execCalSet data s = _
  simp only [execCalSet, lengthIs, hlen, beq_self_eq_true, receiveC_ok _ _ _ hbus, hid, paramOfId_id, hop]
  rfl

theorem gives_calSet_unknown (hid : byteAt data 0 = 0 ∨ 49 < byteAt data 0) :
    Gives (.calSet data) s (raiseFault (badMessage idCalSet 0) s) := by
  show execCalSet data s = _
  simp only [execCalSet, lengthIs, hlen, beq_self_eq_true, receiveC_ok _ _ _ hbus, paramOfId_eq_none hid]
  rfl

end CalSet

/-! ## CAL_DONE (R180) -/

section CalDone

variable {data : List Byte} {s : State} (hlen : data.length = 0) (hbus : s.cPort.busOff = false)
include hlen hbus

theorem gives_calDone_passed (hop : s.operating = .config) (hcheck : crossCheck s.working = none) :
    Gives (.calDone data) s (reportChange (enterRun s)) := by
  show execCalDone data s = _
  simp only [execCalDone, lengthIs, hlen, beq_self_eq_true, receiveC_ok _ _ _ hbus, hop, hcheck]
  rfl

theorem gives_calDone_refused {p : Param} (hop : s.operating = .config) (hcheck : crossCheck s.working = some p) :
    Gives (.calDone data) s (raiseFault (itemFault .calRefused (.param p)) s) := by
  show execCalDone data s = _
  simp only [execCalDone, lengthIs, hlen, beq_self_eq_true, receiveC_ok _ _ _ hbus, hop, hcheck]
  rfl

theorem exec_calDone_run (hop : s.operating = .run) : exec (.calDone data) s = .next s := by
  show execCalDone data s = _
  simp only [execCalDone, lengthIs, hlen, beq_self_eq_true, receiveC_ok _ _ _ hbus, hop]

end CalDone

theorem reportChange_diag (s : State) :
    (reportChange s).diag = { s.diag with notices := s.diag.notices ||| NoticeKind.stateChanged.bit } := by
  simp [reportChange, changeStatus, raiseNotice_eq]

/-- Beside the NOTICE of STATE_CHANGED, the report of a change queues a STATUS. -/
theorem reportChange_cPort (s : State) :
    (reportChange s).cPort = { (raiseNotice .stateChanged s).cPort with status := (reportChange s).cPort.status } := rfl

theorem raiseNotice_cPort_enterRun (k : NoticeKind) (s : State) : (raiseNotice k (enterRun s)).cPort = (raiseNotice k s).cPort := by
  simp only [raiseNotice_eq, enterRun_diag, enterRun_cPort]
  rfl

theorem reportChange_ofChange (s : State) :
    ∃ r ∈ (reportChange s).cPort.status, r.operating = s.operating ∧ r.OfChange (reportChange s) := by
  obtain ⟨-, hoperating, -⟩ := raiseNotice_frame .stateChanged s
  exact hoperating ▸ changeStatus_ofChange (raiseNotice .stateChanged s)

/-! ## POWER_ON_RESET (R183) -/

/-- The state after the reset; the queue of waiting commands and the counter are the model's own (log 2). -/
def afterPowerOnReset (s : State) : State := { State.reset with pending := s.pending, freeIndex := s.freeIndex }

theorem exec_powerOnReset (s : State) : exec .powerOnReset s = .next (afterPowerOnReset s) := rfl

theorem slot_afterPowerOnReset_zero (s : State) : (afterPowerOnReset s).store.slot 0 = limpSlot := slot_resetStore 0

theorem slot_afterPowerOnReset_ne (s : State) {i : Fin 6} (h : i ≠ 0) :
    (afterPowerOnReset s).store.slot i = freeSlot (frameToMemory limpFrame) :=
  (slot_resetStore i).trans (if_neg h)

theorem cacheSlot_afterPowerOnReset (s : State) (i : Fin 8) : (afterPowerOnReset s).cache.slots.get i = resetCacheSlot :=
  get_resetCache_slots i

theorem link_afterPowerOnReset (s : State) (x : Side) : (afterPowerOnReset s).link x = resetLink := by cases x <;> rfl

/-- The STATUS of the reset reports the links DOWN and the sets empty, as the reset leaves them. -/
theorem resetStatus_asStands (s : State) : resetStatus.AsStands (afterPowerOnReset s) := by
  simp [StatusReport.AsStands, resetStatus, afterPowerOnReset, State.reset, resetLink, resetDiag]

end Sys2Proof.Machine

namespace Sys2Proof.Proofs

open Sys2Proof.Machine

/-- Settles O3: a plain field's value is read off the state after the reset, and the tables of slots and the links are lemmas. -/
theorem powerOnResetLeavesPowerOnValues : Obligations.PowerOnResetLeavesPowerOnValues := by
  refine ⟨calibrationOk, fun s => ⟨afterPowerOnReset s, exec_powerOnReset s,
    -- operating state, calibration, track table, motion unit
    rfl, get_defaultCal, rfl, rfl, rfl,
    -- mode selector and vision presence
    rfl, rfl, rfl, rfl, rfl, rfl, rfl, rfl, rfl,
    -- distribution cache
    ?cacheSlots, rfl, rfl, rfl, rfl, rfl, rfl, rfl, rfl,
    -- pattern builder
    rfl, rfl, rfl, rfl, rfl,
    -- frame store
    slot_afterPowerOnReset_zero s, ?limpHeader, rfl, ?limpBlocks, ?otherSlots, rfl, rfl, rfl, rfl, rfl, rfl,
    ?links,
    -- diagnostic unit, diagnostic reader, ports
    rfl, rfl, rfl, rfl, rfl, rfl, rfl, rfl, rfl,
    resetStatus, .inr ⟨rfl, rfl⟩, rfl, rfl, rfl, rfl, resetStatus_asStands s⟩⟩
  case cacheSlots =>
    intro i
    rw [cacheSlot_afterPowerOnReset]
    exact ⟨rfl, rfl, rfl⟩
  case limpHeader => rw [slot_afterPowerOnReset_zero]; rfl
  case limpBlocks =>
    intro x k
    rw [slot_afterPowerOnReset_zero]
    exact block_limpFrame x k
  case otherSlots =>
    intro i hi
    rw [slot_afterPowerOnReset_ne s hi]
    exact ⟨rfl, rfl, rfl, rfl⟩
  case links =>
    intro x
    rw [link_afterPowerOnReset]
    exact ⟨rfl, rfl, rfl, rfl, rfl, rfl, rfl, rfl, rfl⟩

/-- Settles O6: the id names a parameter or none, and a parameter's value is written or refused by the operating state. -/
theorem calSetWritesWorkingSet : Obligations.CalSetWritesWorkingSet := by
  refine ⟨calibrationOk, fun data s hlen hbus => ⟨?config, ?run, ?unknown⟩⟩
  case config =>
    intro p hid hop v written
    have hgives := gives_calSet_config hlen hbus hid hop
    have hselector : written.selector = selectorAfterPut p v s.selector := by
      simp only [written]
      split
      next n hactive => exact (selectorAfterPut_active hactive).symm
      next hinactive => exact (selectorAfterPut_inactive p v hinactive).symm
    have hwritten : written = { s with working := s.working.put p v, selector := selectorAfterPut p v s.selector } := by
      rw [← hselector]
    rw [hwritten]
    rwa [writeParam_eq] at hgives
  case run => exact fun p hid hop => gives_calSet_run hlen hbus hid hop
  case unknown => exact fun hid => gives_calSet_unknown hlen hbus hid

/-- Settles O7: the cross-checks of Table 10-8 decide, and the fields after an accepted CAL_DONE are those of the report made of
the entry to RUN. -/
theorem calDoneCommitsOrRefuses : Obligations.CalDoneCommitsOrRefuses := by
  intro data s hlen hbus v passes
  refine ⟨fun hop hpasses => ?commits, fun hop hfails => ?refuses, fun hop => exec_calDone_run hlen hbus hop⟩
  case commits =>
    have hgives := gives_calDone_passed hlen hbus hop ((crossCheck_eq_none_iff s.working).mpr hpasses)
    obtain ⟨hpending, hoperating, hworking, hcommitted, htracks, hmotion, hselector, hvision, hcache, hbuilder, hstore, hlinkL,
      hlinkR, hvPort, hreader, hfreeIndex⟩ := reportChange_frame (enterRun s)
    have hcPort := reportChange_cPort (enterRun s)
    rw [raiseNotice_cPort_enterRun] at hcPort
    exact ⟨_, hgives, hoperating, hcommitted, hworking, hbuilder, reportChange_diag (enterRun s), reportChange_ofChange (enterRun s),
      hcPort, htracks, hmotion, hselector, hvision, hcache, hstore, hlinkL, hlinkR, hvPort, hreader, hpending, hfreeIndex⟩
  case refuses =>
    obtain ⟨p, hp⟩ := Option.ne_none_iff_exists'.mp (mt (crossCheck_eq_none_iff s.working).mp hfails)
    exact ⟨p, id_of_crossCheck hp, gives_calDone_refused hlen hbus hop hp⟩

end Sys2Proof.Proofs
end

section
/-! SUPPORT. What a command can do: each command answers the state as it stands, the state after power-on reset, or the begun
transmissions of one of the changes below; two commands can stop. The changes stand in groups by the block they belong to, and each
group has one lemma for the blocks it leaves. Every invariant of the part is derived from these. -/

namespace Sys2Proof.Machine

/-! ## The changes, block by block -/

/-- The changes of the track table's commands (R3 to R13). -/
inductive TracksChange (s : State) : State → Prop where
  | refreshed : TracksChange s (refreshVision s)
  | refused (f : FaultReport) : TracksChange s (raiseFault f (refreshVision s))
  | taken (data : List Byte) (hrun : s.operating = .run) :
      TracksChange s (takeRecords (tracksRecords data) (refreshVision s))
  | ended (id : Nat) (hrun : s.operating = .run) :
      TracksChange s { refreshVision s with tracks := endTrack id ((activeCal s).nat .releaseHold) s.tracks }
  | removed (id : Nat) : TracksChange s { s with tracks := removeTrack id s.tracks }

/-- The changes of the motion unit, the mode selector and the vision presence (R24 to R49). -/
inductive DrivingChange (s : State) : State → Prop where
  | lane (data : List Byte) :
      DrivingChange s { refreshVision s with motion := { s.motion with lane := some (laneFields data) } }
  | scene (data : List Byte) :
      DrivingChange s { refreshVision s with selector := { s.selector with scene := sceneFields data } }
  | repeated : DrivingChange s (repeatMotion s)
  | accepted (data : List Byte) : DrivingChange s (acceptMotion (motionFields data) s)
  | stale (hfresh : s.motion.presence = .fresh) :
      DrivingChange s { s with motion := { s.motion with presence := .stale, timer := some Config.staleLimit } }
  | lost :
      DrivingChange s
        (raiseFault (plainFault .motionLost)
          { s with
            motion := { s.motion with presence := .lost, timer := none }
            selector := { s.selector with gate := .closed } })
  | driver (r : DriverRequest) : DrivingChange s { s with selector := takeDriver r s.selector }
  | flashSpent : DrivingChange s { s with selector := spendFlash s.selector }
  | visionLost :
      DrivingChange s
        (raiseFault (plainFault .visionLost)
          { s with
            vision := { present := false, timer := none }
            tracks := []
            selector := { s.selector with scene := clearSceneFlags s.selector.scene } })

/-- The changes of the distribution cache's commands (R71, R74 to R80). -/
inductive CacheChange (s : State) : State → Prop where
  | opened (d : Nat) (data : List Byte) (hd : d ≤ 31) :
      CacheChange s { s with cache := { s.cache with fill := some { id := d, values := distValues data } } }
  | placed (f : OpenFill) (data : List Byte) (hd : f.id ≤ 31) (hf : s.cache.fill = some f) :
      CacheChange s (placeFill f.id (f.values ++ distValues data) { s with cache := { s.cache with fill := none } })
  | dropped (d : Nat) (w : Bool) :
      CacheChange s { s with cache := s.cache.setSlot d w (dropSlot (s.cache.slot d w)) }
  | cleared (spare : Bool → Bool) :
      CacheChange s { s with cache := s.cache.mapSlots fun w sl => if spare w then sl else dropSlot sl }
  | locked (level : Nat) (protect way0 way1 : Bool) :
      CacheChange s { s with cache := applyLock level protect way0 way1 s.cache }
  | sentAgain (r : DistRequest) (hr : s.cache.request = some r) (hsends : r.sends < Config.requestSends) :
      CacheChange s
        (placeDistRequest r.id
          { s with cache := { s.cache with request := some { r with sends := r.sends + 1, timer := 0 } } })
  | givenUp (r : DistRequest) :
      CacheChange s
        (raiseFault (itemFault .distUnavailable (.distCause r.id .unanswered))
          { s with cache := { s.cache with request := none, failed := failedAdd r.id s.cache.failed } })

/-- What the bands of both lamps of a build raise, L before R (R121, R122). -/
def raiseBands (b : Build) (s : State) : State :=
  let band := fun lamp => (lampResult (committedCal s) b.snapshot s.builder.workingCopy lamp).band
  raiseBand b.sequence .right (band .right) (raiseBand b.sequence .left (band .left) s)

/-- The state with the frame of the build computing fixed, before COMMIT asks for its first write (R91). -/
def afterCompute (b : Build) (s : State) : State :=
  { raiseBands b s with
    builder :=
      { (raiseBands b s).builder with
        phase := .committing b (buildFrame (committedCal s) b.snapshot s.builder.workingCopy b.sequence) 0 } }

/-- The state with a block of the commit written and counted, before the port is released (R92). -/
def afterBlockWrite (b : Build) (f : Frame) (n : Nat) (lamp : Side) (k : Fin 5) (s : State) : State :=
  { s with
    store := s.store.writeMemory b.slot fun m => m.writeBlock lamp k (blockValues (f.values lamp) k)
    builder := { s.builder with phase := .committing b f (n + 1) } }

/-- The state with the build timer restarted (R85). -/
def restartTimer (s : State) : State := { s with builder := { s.builder with timer := some 0 } }

/-- The changes of the pattern builder's commands (R84 to R93). -/
inductive BuildChange (s : State) : State → Prop where
  | overrun (b : Build) (ht : s.builder.timer.isSome = true) :
      BuildChange s (raiseFault (buildFault .buildOverrun b.sequence none) (restartTimer s))
  | started (slot : Fin 6) (ht : s.builder.timer.isSome = true) (hidle : s.builder.phase.build = none)
      (hfree : s.store.lowestFree = some slot) : BuildChange s (startBuild slot (restartTimer s))
  | computed (b : Build) (hphase : s.builder.phase = .computing b) :
      BuildChange s (requestPort .commit (commitWrite 0) (afterCompute b s))
  | blockWritten (b : Build) (f : Frame) (n : Nat) (w : PortUse) (lamp : Side) (k : Fin 5)
      (hphase : s.builder.phase = .committing b f n) (hbusy : s.store.busy = some w) (hr : w.requester = .commit)
      (ha : w.access = .blockWrite lamp k) :
      BuildChange s (requestPort .commit (commitWrite (n + 1)) (releasePort (afterBlockWrite b f n lamp k s)))
  | committed (b : Build) (f : Frame) (n : Nat) (w : PortUse)
      (hphase : s.builder.phase = .committing b f n) (hbusy : s.store.busy = some w) (hr : w.requester = .commit)
      (ha : w.access = .headerWrite) : BuildChange s (releasePort (afterCommit b f s))

/-- A transfer with the outcome of a block compare in its map (R144). -/
def noteCompare (st : FrameStore) (a b : Fin 6) (lamp : Side) (k : Fin 5) (t : Transfer) : Transfer :=
  if blocksDiffer st a b lamp k then { t with map := t.map ++ [k] } else t

/-- The state with a compare's outcome noted, before the port is released. -/
def afterNote (x : Side) (a b : Fin 6) (lamp : Side) (k : Fin 5) (t : Transfer) (s : State) : State :=
  s.setLink x { s.link x with transfer := some (noteCompare s.store a b lamp k t) }

/-- The state with a link DOWN, its transfer aborted and both its holds released (R137). -/
def linkLost (x : Side) (s : State) : State :=
  let aborted := abandonTransfer x s
  { aborted with store := aborted.store.releaseApplied x }.setLink x
    { aborted.link x with
      state := .down, statusTimer := none, temp := none, supplyOk := none, dead := [], deadLimitFlag := false
      applied := none }

/-- The changes of a lamp link's commands (R136 to R152). -/
inductive LinkChange (x : Side) (s : State) : State → Prop where
  | discarded (w : PortUse) (hbusy : s.store.busy = some w) (hr : w.requester = linkRequester x)
      (hw : w.wanted = false ∨ (s.link x).transfer = none) : LinkChange x s (releasePort s)
  | headerSent (t : Transfer) (w : PortUse) (i : Fin 6) (bytes : List Byte) (hbusy : s.store.busy = some w)
      (hr : w.requester = linkRequester x) (ha : w.access = .headerRead i) (hw : w.wanted = true)
      (ht : (s.link x).transfer = some t) : LinkChange x s (releasePort (sendOnLink x bytes s))
  | blockSent (t : Transfer) (w : PortUse) (i : Fin 6) (lamp : Side) (k : Fin 5) (bytes : List Byte)
      (hbusy : s.store.busy = some w) (hr : w.requester = linkRequester x) (ha : w.access = .blockRead i lamp k)
      (hw : w.wanted = true) (ht : (s.link x).transfer = some t) :
      LinkChange x s (releasePort (sendOnLink x bytes s))
  | compared (t : Transfer) (w : PortUse) (a b : Fin 6) (lamp : Side) (k : Fin 5) (hbusy : s.store.busy = some w)
      (hr : w.requester = linkRequester x) (ha : w.access = .compare a b lamp k) (hw : w.wanted = true)
      (ht : (s.link x).transfer = some t) :
      LinkChange x s
        (afterCompare x a b (noteCompare s.store a b lamp k t) (releasePort (afterNote x a b lamp k t s)) k)
  | wireFreed : LinkChange x s (s.setLink x { s.link x with wire := (s.link x).waiting, waiting := none })
  | lampState (bytes : List Byte) (temp : Int) (ok : Bool) (entries : List Nat)
      (hframe : lampFrame bytes = some (.lampState temp ok entries)) :
      LinkChange x s (takeLampState x temp ok entries s)
  | lost : LinkChange x s (raiseNotice .linkChanged (raiseFault (linkFault .linkDown x none) (linkLost x s)))
  | fetched (n : Fin 6) (applied : Nat) (full absent : Bool) (hup : (s.link x).state = .up)
      (hn : s.store.newest = some n) : LinkChange x s (startTransfer x n applied full absent s)
  | acknowledged (t : Transfer) (hup : (s.link x).state = .up) (ht : (s.link x).transfer = some t)
      (hstep : t.step ≠ .compare) : LinkChange x s (takeAck x t s)
  | resent (t : Transfer) (ht : (s.link x).transfer = some t)
      (hstep : t.step ≠ .compare ∨ t.replyTimer.isSome = true) : LinkChange x s (demandResend x t s)
  | quitted (t : Transfer) (ht : (s.link x).transfer = some t) : LinkChange x s (abandonTransfer x s)

/-- The changes of the diagnostic unit's and the diagnostic reader's commands (R163 to R169, R178). -/
inductive DiagChange (s : State) : Instr → State → Prop where
  | faultsCleared (data : List Byte) (hlen : data.length = 3) :
      DiagChange s (.clearFaults data)
        { s with diag := { s.diag with
            summary := s.diag.summary &&& ~~~(faultSetField data)
            capture := if bitAt data 2 0 then none else s.diag.capture } }
  | noticesCleared (c : Instr) (data : List Byte) :
      DiagChange s c { s with diag := { s.diag with notices := s.diag.notices &&& ~~~(noticeSetField data) } }
  | masked (c : Instr) (mask : BitVec 8) : DiagChange s c { s with diag := { s.diag with mask := mask } }
  | unmasked (c : Instr) (mask : BitVec 8) :
      DiagChange s c (makeNotice { s with diag := { s.diag with mask := mask } })
  | answered (c : Instr) (data : List Byte) (d : DiagData) (hfree : s.reader = none) :
      DiagChange s c (answerRead data d s)
  | asked (c : Instr) (data : List Byte) (i : Fin 6) (x : Side) (k : Fin 5) (hfree : s.reader = none) :
      DiagChange s c (requestPort .diag (.diagRead i x k) { s with reader := some data })
  | read (c : Instr) (w : PortUse) (hbusy : s.store.busy = some w) (hr : w.requester = .diag) :
      DiagChange s c (releasePort (placeReply (foundReply w.found) s))

/-- The changes of the calibration and of the operating state (R179 to R182). -/
inductive OperatingChange (s : State) : Instr → State → Prop where
  | written (c : Instr) (p : Param) (v : Int) (hconfig : s.operating = .config) :
      OperatingChange s c (writeParam p v s)
  | ran (data : List Byte) (hconfig : s.operating = .config) (hcheck : crossCheck s.working = none) :
      OperatingChange s (.calDone data) (reportChange (enterRun s))
  | configured (data : List Byte) (haccepted : configAccepted s = true) :
      OperatingChange s (.configEnter data) (reportChange (enterConfig s))
  | restarted (data : List Byte) : OperatingChange s (.restart data) (resetBlocks s)
  | restartedAnew (data : List Byte) : OperatingChange s (.restart data) (reportChange (resetBlocks s))

/-- The changes of the ports' own events (R174, R175). -/
inductive PortChange (s : State) : State → Prop where
  | vOff : PortChange s (vPortOff s)
  | cOff : PortChange s (cPortOff s)
  | vRecovered (hoff : s.vPort.busOff = true) : PortChange s { s with vPort := { s.vPort with busOff := false } }
  | cRecovered (hoff : s.cPort.busOff = true) : PortChange s { s with cPort := { s.cPort with busOff := false } }
  | vEnded : PortChange s { s with vPort := { s.vPort with sending := none } }
  | cEnded : PortChange s { s with cPort := { s.cPort with sending := none } }

/-- What a command can do before the transmissions begin. -/
inductive Change (c : Instr) (s : State) : State → Prop where
  | unchanged : Change c s s
  | fault (f : FaultReport) : Change c s (raiseFault f s)
  | tracks {u : State} (h : TracksChange s u) : Change c s u
  | driving {u : State} (h : DrivingChange s u) : Change c s u
  | cache {u : State} (h : CacheChange s u) : Change c s u
  | build {u : State} (h : BuildChange s u) : Change c s u
  | link {u : State} (x : Side) (h : LinkChange x s u) : Change c s u
  | diag {u : State} (h : DiagChange s c u) : Change c s u
  | operating {u : State} (h : OperatingChange s c u) : Change c s u
  | port {u : State} (h : PortChange s u) : Change c s u

/-! ## What each command answers -/

/-- An answer is the state as it stands, or one of the command's changes with the transmissions begun. -/
def Answers (c : Instr) (s : State) (a : Answer) : Prop := a = .next s ∨ ∃ u, Change c s u ∧ a = done u

theorem answers_ignored (c : Instr) (s : State) : Answers c s (.next s) := .inl rfl

theorem answers_done {c : Instr} {s u : State} (h : Change c s u) : Answers c s (done u) := .inr ⟨u, h, rfl⟩

/-- A frame on the C-port is handed to its owner, or it is ignored or a fault for its length (R173, R175). -/
theorem answers_receiveC {c : Instr} {s : State} (identifier : Nat) {ok : Bool} {handle : State → Answer}
    (h : ok = true → Answers c s (handle s)) : Answers c s (receiveC identifier ok s handle) := by
  rcases receiveC_cases identifier ok s handle with h' | h' | ⟨-, hok, h'⟩ <;> rw [h']
  · exact answers_ignored c s
  · exact answers_done (.fault _)
  · exact h hok

/-- As `answers_receiveC`, for the V-port. -/
theorem answers_receiveV {c : Instr} {s : State} (identifier : Nat) {ok : Bool} {handle : State → Answer}
    (h : Answers c s (handle (refreshVision s))) : Answers c s (receiveV identifier ok s handle) := by
  rcases receiveV_cases identifier ok s handle with h' | h' | ⟨-, -, h'⟩ <;> rw [h']
  · exact answers_ignored c s
  · exact answers_done (.fault _)
  · exact h

theorem accessOf_eq_some {st : FrameStore} {r : Requester} {w : PortUse} :
    st.accessOf r = some w ↔ st.busy = some w ∧ w.requester = r := by
  unfold FrameStore.accessOf
  split
  next v hv =>
    by_cases hr : v.requester = r
    · simp only [hr, if_true, hv, Option.some.injEq]
      exact ⟨fun h => ⟨h, h ▸ hr⟩, fun h => h.1⟩
    · simp only [hr, if_false, hv, Option.some.injEq, reduceCtorEq, false_iff]
      rintro ⟨rfl, hw⟩
      exact hr hw
  next hv => simp [hv]

/-- The step that an ACK or a RETRY names is that of its code. -/
theorem step_of_reply {bytes : List Byte} {tag : Nat} {step : Option TransferStep}
    (h : lampFrame bytes = some (.ack tag step) ∨ lampFrame bytes = some (.retry tag step)) :
    step = stepOfCode (byteAt (frameBody bytes) 1) := by
  have hof : lampFrameOf (byteAt bytes 0) (frameBody bytes) = some (.ack tag step) ∨
      lampFrameOf (byteAt bytes 0) (frameBody bytes) = some (.retry tag step) := by
    by_cases hcrc : crcAgrees bytes = true
    · simpa only [lampFrame, hcrc, if_true] using h
    · simp [lampFrame, hcrc] at h
  unfold lampFrameOf at hof
  split at hof <;> (try split at hof) <;> simp at hof
  · exact hof.2.symm
  · exact hof.2.symm

/-- No reply names COMPARE (R148). -/
theorem reply_step_ne_compare {bytes : List Byte} {tag : Nat} {step : Option TransferStep}
    (h : lampFrame bytes = some (.ack tag step) ∨ lampFrame bytes = some (.retry tag step)) : step ≠ some .compare :=
  step_of_reply h ▸ stepOfCode_ne_compare _

/-- A result that forms no frame is unwanted, or there is no transfer to form it for (R147). -/
theorem unwanted_or_idle {wanted : Bool} {o : Option Transfer} (h : ∀ t, wanted = true → o = some t → False) :
    wanted = false ∨ o = none := by
  cases wanted with
  | false => exact .inl rfl
  | true => exact .inr (Option.eq_none_iff_forall_ne_some.mpr fun t ht => h t rfl ht)

theorem matchedTransfer_some {l : LampLink} {tag : Nat} {t : Transfer} (h : matchedTransfer l tag = some t) :
    l.state = .up ∧ l.transfer = some t := by
  unfold matchedTransfer at h
  split at h
  next hup ht =>
    split at h <;> cases h
    exact ⟨hup, ht⟩
  next => cases h

section Commands

variable (s : State) (data : List Byte) (x : Side) (bytes : List Byte)

theorem answers_tracks : Answers (.tracks data) s (execTracks data s) := by
  refine answers_receiveV _ ?_
  split
  · exact answers_done (.tracks .refreshed)
  next hrun => exact answers_done (.tracks (.taken data hrun))

theorem answers_trackEnd : Answers (.trackEnd data) s (execTrackEnd data s) := by
  refine answers_receiveV _ ?_
  split
  · exact answers_done (.tracks .refreshed)
  next hrun =>
    split
    · exact answers_done (.tracks (.refused _))
    · exact answers_done (.tracks (.ended _ hrun))

theorem answers_releaseTimerExpiry (id : Nat) : Answers (.releaseTimerExpiry id) s (execReleaseTimerExpiry id s) := by
  unfold execReleaseTimerExpiry
  split
  · exact answers_done (.tracks (.removed id))
  · exact answers_ignored _ s

theorem answers_trackAgeExpiry (id : Nat) : Answers (.trackAgeExpiry id) s (execTrackAgeExpiry id s) := by
  unfold execTrackAgeExpiry
  split
  · exact answers_done (.tracks (.removed id))
  · exact answers_ignored _ s

theorem answers_lane : Answers (.lane data) s (execLane data s) :=
  answers_receiveV _ (answers_done (.driving (.lane data)))

theorem answers_scene : Answers (.scene data) s (execScene data s) :=
  answers_receiveV _ (answers_done (.driving (.scene data)))

theorem answers_motion : Answers (.motion data) s (execMotion data s) := by
  refine answers_receiveC _ fun _ => ?_
  split
  · exact answers_done (.driving .repeated)
  · exact answers_done (.driving (.accepted data))

theorem answers_presenceStale : Answers .presenceStale s (execPresenceStale s) := by
  unfold execPresenceStale
  split
  next hfresh _ => exact answers_done (.driving (.stale hfresh))
  · exact answers_ignored _ s

theorem answers_presenceLost : Answers .presenceLost s (execPresenceLost s) := by
  unfold execPresenceLost
  split
  · exact answers_done (.driving .lost)
  · exact answers_ignored _ s

theorem answers_driver : Answers (.driver data) s (execDriver data s) := by
  refine answers_receiveC _ fun _ => ?_
  split
  · exact answers_done (.fault _)
  next r _ => exact answers_done (.driving (.driver r))

theorem answers_flashExpiry : Answers .flashExpiry s (execFlashExpiry s) := by
  unfold execFlashExpiry
  split
  · exact answers_done (.driving .flashSpent)
  · exact answers_ignored _ s

theorem answers_visionLoss : Answers .visionLoss s (execVisionLoss s) := by
  unfold execVisionLoss
  split
  · exact answers_done (.driving .visionLost)
  · exact answers_ignored _ s

theorem answers_distData : Answers (.distData data) s (execDistData data s) := by
  refine answers_receiveC _ fun _ => ?_
  dsimp only
  split_ifs with hpart hd hzero
  · exact answers_done (.fault _)
  · exact answers_done (.fault _)
  · exact answers_done (.cache (.opened _ data (Nat.le_of_not_lt hd)))
  · unfold completeFill
    split
    next f hf =>
      split
      next hid =>
        rw [← hid]
        exact answers_done (.cache (.placed f data (hid ▸ Nat.le_of_not_lt hd) hf))
      · exact answers_done (.fault _)
    · exact answers_done (.fault _)

theorem answers_distDrop : Answers (.distDrop data) s (execDistDrop data s) := by
  refine answers_receiveC _ fun _ => ?_
  dsimp only
  split
  · exact answers_done (.fault _)
  · split
    · exact answers_done .unchanged
    · split
      · exact answers_done (.fault _)
      · exact answers_done (.cache (.dropped _ _))

theorem answers_distClear : Answers (.distClear data) s (execDistClear data s) :=
  answers_receiveC _ fun _ => answers_done (.cache (.cleared _))

theorem answers_distLock : Answers (.distLock data) s (execDistLock data s) :=
  answers_receiveC _ fun _ => answers_done (.cache (.locked _ _ _ _))

theorem answers_requestTimerExpiry : Answers .requestTimerExpiry s (execRequestTimerExpiry s) := by
  unfold execRequestTimerExpiry
  split
  · exact answers_ignored _ s
  next r hr =>
    split
    next hsends => exact answers_done (.cache (.sentAgain r hr hsends))
    · exact answers_done (.cache (.givenUp r))

theorem answers_computeComplete : Answers .computeComplete s (execComputeComplete s) := by
  unfold execComputeComplete
  split
  next b hphase =>
    refine .inr ⟨_, .build (.computed b hphase), ?_⟩
    simp only [afterCompute, raiseBands]
  · exact answers_ignored _ s

theorem answers_commitBlockWriteDone : Answers .commitBlockWriteDone s (execCommitBlockWriteDone s) := by
  unfold execCommitBlockWriteDone
  split
  next lamp k _ _ b f n haccess hphase =>
    obtain ⟨hbusy, hr⟩ := accessOf_eq_some.mp haccess
    exact answers_done (.build (.blockWritten b f n _ lamp k hphase hbusy hr rfl))
  · exact answers_ignored _ s

theorem answers_commitHeaderWriteDone : Answers .commitHeaderWriteDone s (execCommitHeaderWriteDone s) := by
  unfold execCommitHeaderWriteDone
  split
  next b f n haccess hphase =>
    obtain ⟨hbusy, hr⟩ := accessOf_eq_some.mp haccess
    refine .inr ⟨_, .build (.committed b f n _ hphase hbusy hr rfl), ?_⟩
    have h := gives_commitHeaderWriteDone hphase hbusy hr rfl
    simp only [Gives, exec, execCommitHeaderWriteDone, haccess, hphase] at h
    exact h
  · exact answers_ignored _ s

theorem answers_linkHeaderReadDone : Answers (.linkHeaderReadDone x) s (execLinkHeaderReadDone x s) := by
  unfold execLinkHeaderReadDone
  split
  next i wanted _ haccess =>
    obtain ⟨hbusy, hr⟩ := accessOf_eq_some.mp haccess
    split
    next t ht => exact answers_done (.link x (.headerSent t _ i _ hbusy hr rfl rfl ht))
    next hnot => exact answers_done (.link x (.discarded _ hbusy hr (unwanted_or_idle hnot)))
  · exact answers_ignored _ s

theorem answers_linkBlockReadDone : Answers (.linkBlockReadDone x) s (execLinkBlockReadDone x s) := by
  unfold execLinkBlockReadDone
  split
  next i lamp k wanted _ haccess =>
    obtain ⟨hbusy, hr⟩ := accessOf_eq_some.mp haccess
    split
    next t ht => exact answers_done (.link x (.blockSent t _ i lamp k _ hbusy hr rfl rfl ht))
    next hnot => exact answers_done (.link x (.discarded _ hbusy hr (unwanted_or_idle hnot)))
  · exact answers_ignored _ s

theorem answers_blockCompareDone : Answers (.blockCompareDone x) s (execBlockCompareDone x s) := by
  unfold execBlockCompareDone
  split
  next a b lamp k wanted _ haccess =>
    obtain ⟨hbusy, hr⟩ := accessOf_eq_some.mp haccess
    split
    next t ht => exact answers_done (.link x (.compared t _ a b lamp k hbusy hr rfl rfl ht))
    next hnot => exact answers_done (.link x (.discarded _ hbusy hr (unwanted_or_idle hnot)))
  · exact answers_ignored _ s

theorem answers_linkFrameSendEnd : Answers (.linkFrameSendEnd x) s (execLinkFrameSendEnd x s) := by
  unfold execLinkFrameSendEnd
  split
  · exact answers_done (.link x .wireFreed)
  · exact answers_ignored _ s

theorem answers_lampState : Answers (.lampState x bytes) s (execLampState x bytes s) := by
  unfold execLampState
  split
  next temp ok entries hframe => exact answers_done (.link x (.lampState bytes temp ok entries hframe))
  · exact answers_ignored _ s

theorem answers_statusTimerExpiry : Answers (.statusTimerExpiry x) s (execStatusTimerExpiry x s) := by
  unfold execStatusTimerExpiry
  split
  · exact answers_ignored _ s
  · exact answers_done (.link x .lost)

theorem answers_ack : Answers (.ack x bytes) s (execAck x bytes s) := by
  unfold execAck
  split
  next tag step hframe =>
    split
    next t hmatched =>
      split
      next hstep =>
        obtain ⟨hup, ht⟩ := matchedTransfer_some hmatched
        exact answers_done (.link x (.acknowledged t hup ht fun h => reply_step_ne_compare (.inl hframe) (h ▸ hstep)))
      · exact answers_ignored _ s
    · exact answers_ignored _ s
  · exact answers_ignored _ s

theorem answers_retry : Answers (.retry x bytes) s (execRetry x bytes s) := by
  unfold execRetry
  split
  next tag step hframe =>
    split
    next t hmatched =>
      split
      next hstep =>
        obtain ⟨-, ht⟩ := matchedTransfer_some hmatched
        exact answers_done (.link x (.resent t ht (.inl fun h => reply_step_ne_compare (.inr hframe) (h ▸ hstep))))
      · exact answers_ignored _ s
    · exact answers_ignored _ s
  · exact answers_ignored _ s

theorem answers_replyTimeout : Answers (.replyTimeout x) s (execReplyTimeout x s) := by
  unfold execReplyTimeout
  split
  next t ht =>
    split
    next htimer => exact answers_done (.link x (.resent t ht (.inr (htimer ▸ rfl))))
    · exact answers_ignored _ s
  · exact answers_ignored _ s

theorem answers_quit : Answers (.quit x bytes) s (execQuit x bytes s) := by
  unfold execQuit
  split
  · split
    next t hmatched => exact answers_done (.link x (.quitted t (matchedTransfer_some hmatched).2))
    · exact answers_ignored _ s
  · exact answers_ignored _ s

theorem answers_clearFaults : Answers (.clearFaults data) s (execClearFaults data s) :=
  answers_receiveC _ fun hlen => answers_done (.diag (.faultsCleared data (beq_iff_eq.mp hlen)))

theorem answers_clearNotices : Answers (.clearNotices data) s (execClearNotices data s) :=
  answers_receiveC _ fun _ => answers_done (.diag (.noticesCleared _ data))

theorem answers_noticeMask : Answers (.noticeMask data) s (execNoticeMask data s) := by
  refine answers_receiveC _ fun _ => ?_
  dsimp only
  split
  · exact answers_done (.diag (.unmasked _ _))
  · exact answers_done (.diag (.masked _ _))

/-- A read that is accepted finds the reader not busy. -/
theorem answers_acceptRead {c : Instr} {own : DiagTarget → State → Answer}
    (h : s.reader = none → ∀ target, Answers c s (own target s)) : Answers c s (acceptRead data s own) := by
  refine answers_receiveC _ fun _ => ?_
  split
  · exact answers_ignored _ s
  next hfree =>
    split
    · exact answers_done (.fault _)
    · exact h (Option.not_isSome_iff_eq_none.mp hfree) _

theorem answers_diagReadTrackEntry : Answers (.diagReadTrackEntry data) s (execDiagReadTrackEntry data s) := by
  refine answers_acceptRead s data fun hfree target => ?_
  split
  · exact answers_done (.diag (.answered _ data _ hfree))
  · exact answers_ignored _ s

theorem answers_diagReadFrameBlock : Answers (.diagReadFrameBlock data) s (execDiagReadFrameBlock data s) := by
  refine answers_acceptRead s data fun hfree target => ?_
  split
  · split
    · exact answers_done (.diag (.answered _ data _ hfree))
    next access haccess =>
      unfold frameBlockRequest at haccess
      split at haccess
      · cases haccess
      · split at haccess <;> cases haccess
        exact answers_done (.diag (.asked _ data _ _ _ hfree))
  · exact answers_ignored _ s

theorem answers_diagReadCaptureRecord :
    Answers (.diagReadCaptureRecord data) s (execDiagReadCaptureRecord data s) := by
  refine answers_acceptRead s data fun hfree target => ?_
  split
  · exact answers_done (.diag (.answered _ data _ hfree))
  · exact answers_ignored _ s

theorem answers_diagReadCacheSlot : Answers (.diagReadCacheSlot data) s (execDiagReadCacheSlot data s) := by
  refine answers_acceptRead s data fun hfree target => ?_
  split
  · exact answers_done (.diag (.answered _ data _ hfree))
  · exact answers_ignored _ s

theorem answers_diagReadLookupHistory :
    Answers (.diagReadLookupHistory data) s (execDiagReadLookupHistory data s) := by
  refine answers_acceptRead s data fun hfree target => ?_
  split
  · exact answers_done (.diag (.answered _ data _ hfree))
  · exact answers_ignored _ s

theorem answers_diagBlockReadDone : Answers .diagBlockReadDone s (execDiagBlockReadDone s) := by
  unfold execDiagBlockReadDone
  split
  next w haccess =>
    obtain ⟨hbusy, hr⟩ := accessOf_eq_some.mp haccess
    exact answers_done (.diag (.read _ w hbusy hr))
  · exact answers_ignored _ s

theorem answers_calSet : Answers (.calSet data) s (execCalSet data s) := by
  refine answers_receiveC _ fun _ => ?_
  split
  · exact answers_done (.fault _)
  next p _ =>
    split
    · exact answers_done (.fault _)
    next hconfig => exact answers_done (.operating (.written _ p _ hconfig))

theorem answers_calDone : Answers (.calDone data) s (execCalDone data s) := by
  refine answers_receiveC _ fun _ => ?_
  split
  · exact answers_ignored _ s
  next hconfig =>
    split
    · exact answers_done (.fault _)
    next hcheck => exact answers_done (.operating (.ran data hconfig hcheck))

theorem answers_configEnter : Answers (.configEnter data) s (execConfigEnter data s) := by
  refine answers_receiveC _ fun _ => ?_
  split
  next haccepted => exact answers_done (.operating (.configured data haccepted))
  · exact answers_done (.fault _)

theorem answers_restart : Answers (.restart data) s (execRestart data s) := by
  refine answers_receiveC _ fun _ => ?_
  split
  · exact answers_done (.operating (.restarted data))
  · exact answers_done (.operating (.restartedAnew data))

theorem answers_busOff (port : Port) : Answers (.busOff port) s (execBusOff port s) := by
  cases port <;> simp only [execBusOff] <;> split
  · exact answers_ignored _ s
  · exact answers_done (.port .vOff)
  · exact answers_ignored _ s
  · exact answers_done (.port .cOff)

theorem answers_busOffRecovery (port : Port) : Answers (.busOffRecovery port) s (execBusOffRecovery port s) := by
  cases port <;> simp only [execBusOffRecovery] <;> split
  next hoff => exact answers_done (.port (.vRecovered hoff))
  · exact answers_ignored _ s
  next hoff => exact answers_done (.port (.cRecovered hoff))
  · exact answers_ignored _ s

theorem answers_transmissionEnd (port : Port) : Answers (.transmissionEnd port) s (execTransmissionEnd port s) := by
  cases port <;> simp only [execTransmissionEnd] <;> split
  · exact answers_done (.port .vEnded)
  · exact answers_ignored _ s
  · exact answers_done (.port .cEnded)
  · exact answers_ignored _ s

end Commands

/-- The two states in which a command stops (R125, R128): a build's start without a FREE slot, a FETCH without a newest one. -/
def Stops (c : Instr) (s : State) : Prop :=
  (c = .buildTimerExpiry ∧ s.builder.phase.build = none ∧ s.store.lowestFree = none) ∨
    ((∃ x bytes, c = .fetch x bytes) ∧ s.store.newest = none)

theorem answers_buildTimerExpiry (s : State) (h : ¬Stops .buildTimerExpiry s) :
    Answers .buildTimerExpiry s (execBuildTimerExpiry s) := by
  unfold execBuildTimerExpiry
  split
  · exact answers_ignored _ s
  next n ht =>
    have ht : s.builder.timer.isSome = true := ht ▸ rfl
    dsimp only
    split
    next b _ => exact answers_done (.build (.overrun b ht))
    next hidle =>
      split
      next hnone => exact absurd (.inl ⟨rfl, hidle, hnone⟩) h
      next slot hfree => exact answers_done (.build (.started slot ht hidle hfree))

theorem answers_fetch (s : State) (x : Side) (bytes : List Byte) (h : ¬Stops (.fetch x bytes) s) :
    Answers (.fetch x bytes) s (execFetch x bytes s) := by
  unfold execFetch
  split
  next applied full absent _ =>
    split
    · exact answers_ignored _ s
    next hnotDown =>
      have hup : (s.link x).state = .up := by
        cases hstate : (s.link x).state with
        | down => exact absurd hstate hnotDown
        | up => rfl
      split
      next hnone => exact absurd (.inr ⟨⟨x, bytes, rfl⟩, hnone⟩) h
      next n hn => exact answers_done (.link x (.fetched n applied full absent hup hn))
  · exact answers_ignored _ s

/-- Where it does not stop, a command other than power-on reset makes one of its changes or none. -/
theorem exec_answers {c : Instr} {s : State} (hreset : c ≠ .powerOnReset) (hstops : ¬Stops c s) :
    Answers c s (exec c s) := by
  cases c with
  | tracks data => exact answers_tracks s data
  | trackEnd data => exact answers_trackEnd s data
  | releaseTimerExpiry id => exact answers_releaseTimerExpiry s id
  | trackAgeExpiry id => exact answers_trackAgeExpiry s id
  | lane data => exact answers_lane s data
  | scene data => exact answers_scene s data
  | motion data => exact answers_motion s data
  | presenceStale => exact answers_presenceStale s
  | presenceLost => exact answers_presenceLost s
  | driver data => exact answers_driver s data
  | flashExpiry => exact answers_flashExpiry s
  | visionLoss => exact answers_visionLoss s
  | buildTimerExpiry => exact answers_buildTimerExpiry s hstops
  | computeComplete => exact answers_computeComplete s
  | commitBlockWriteDone => exact answers_commitBlockWriteDone s
  | commitHeaderWriteDone => exact answers_commitHeaderWriteDone s
  | linkHeaderReadDone x => exact answers_linkHeaderReadDone s x
  | linkBlockReadDone x => exact answers_linkBlockReadDone s x
  | blockCompareDone x => exact answers_blockCompareDone s x
  | diagBlockReadDone => exact answers_diagBlockReadDone s
  | linkFrameSendEnd x => exact answers_linkFrameSendEnd s x
  | lampState x bytes => exact answers_lampState s x bytes
  | statusTimerExpiry x => exact answers_statusTimerExpiry s x
  | fetch x bytes => exact answers_fetch s x bytes hstops
  | ack x bytes => exact answers_ack s x bytes
  | retry x bytes => exact answers_retry s x bytes
  | replyTimeout x => exact answers_replyTimeout s x
  | quit x bytes => exact answers_quit s x bytes
  | distData data => exact answers_distData s data
  | distDrop data => exact answers_distDrop s data
  | distClear data => exact answers_distClear s data
  | distLock data => exact answers_distLock s data
  | requestTimerExpiry => exact answers_requestTimerExpiry s
  | clearFaults data => exact answers_clearFaults s data
  | clearNotices data => exact answers_clearNotices s data
  | noticeMask data => exact answers_noticeMask s data
  | diagReadTrackEntry data => exact answers_diagReadTrackEntry s data
  | diagReadFrameBlock data => exact answers_diagReadFrameBlock s data
  | diagReadCaptureRecord data => exact answers_diagReadCaptureRecord s data
  | diagReadCacheSlot data => exact answers_diagReadCacheSlot s data
  | diagReadLookupHistory data => exact answers_diagReadLookupHistory s data
  | calSet data => exact answers_calSet s data
  | calDone data => exact answers_calDone s data
  | configEnter data => exact answers_configEnter s data
  | restart data => exact answers_restart s data
  | powerOnReset => exact absurd rfl hreset
  | busOff port => exact answers_busOff s port
  | busOffRecovery port => exact answers_busOffRecovery s port
  | transmissionEnd port => exact answers_transmissionEnd s port

end Sys2Proof.Machine
end

section
/-! SUPPORT. What each group of changes leaves, and what every step is made of: with these a statement about every step is one about
the ticking of the time bases and about the changes of the blocks it speaks of. Then the statements about the queue, the operating
state and the capture record. -/

namespace Sys2Proof.Machine

/-! ## What each group leaves -/

@[simp] theorem raiseBands_frame (b : Build) (s : State) :
    (raiseBands b s).pending = s.pending ∧ (raiseBands b s).operating = s.operating ∧
      (raiseBands b s).working = s.working ∧ (raiseBands b s).committed = s.committed ∧
      (raiseBands b s).tracks = s.tracks ∧ (raiseBands b s).motion = s.motion ∧
      (raiseBands b s).selector = s.selector ∧ (raiseBands b s).vision = s.vision ∧
      (raiseBands b s).cache = s.cache ∧ (raiseBands b s).builder = s.builder ∧
      (raiseBands b s).store = s.store ∧ (raiseBands b s).linkL = s.linkL ∧ (raiseBands b s).linkR = s.linkR ∧
      (raiseBands b s).vPort = s.vPort ∧ (raiseBands b s).reader = s.reader ∧
      (raiseBands b s).freeIndex = s.freeIndex := by
  simp [raiseBands]

theorem afterCompute_builder (b : Build) (s : State) :
    (afterCompute b s).builder =
      { s.builder with
        phase := .committing b (buildFrame (committedCal s) b.snapshot s.builder.workingCopy b.sequence) 0 } := by
  simp [afterCompute]

@[simp] theorem afterCompute_frame (b : Build) (s : State) :
    (afterCompute b s).pending = s.pending ∧ (afterCompute b s).operating = s.operating ∧
      (afterCompute b s).working = s.working ∧ (afterCompute b s).committed = s.committed ∧
      (afterCompute b s).tracks = s.tracks ∧ (afterCompute b s).motion = s.motion ∧
      (afterCompute b s).selector = s.selector ∧ (afterCompute b s).vision = s.vision ∧
      (afterCompute b s).cache = s.cache ∧ (afterCompute b s).store = s.store ∧
      (afterCompute b s).linkL = s.linkL ∧ (afterCompute b s).linkR = s.linkR ∧
      (afterCompute b s).vPort = s.vPort ∧ (afterCompute b s).reader = s.reader ∧
      (afterCompute b s).freeIndex = s.freeIndex := by
  simp [afterCompute]

@[simp] theorem linkLost_frame (x : Side) (s : State) :
    (linkLost x s).pending = s.pending ∧ (linkLost x s).operating = s.operating ∧
      (linkLost x s).working = s.working ∧ (linkLost x s).committed = s.committed ∧
      (linkLost x s).tracks = s.tracks ∧ (linkLost x s).motion = s.motion ∧
      (linkLost x s).selector = s.selector ∧ (linkLost x s).vision = s.vision ∧
      (linkLost x s).cache = s.cache ∧ (linkLost x s).builder = s.builder ∧
      (linkLost x s).diag = s.diag ∧ (linkLost x s).vPort = s.vPort ∧ (linkLost x s).cPort = s.cPort ∧
      (linkLost x s).reader = s.reader ∧ (linkLost x s).freeIndex = s.freeIndex := by
  simp [linkLost]

@[simp] theorem startBuild_store (slot : Fin 6) (s : State) : (startBuild slot s).store = s.store.claim slot := by
  simp [startBuild]

@[simp] theorem enterConfig_frame (s : State) :
    (enterConfig s).pending = s.pending ∧ (enterConfig s).committed = s.committed ∧
      (enterConfig s).motion = s.motion ∧ (enterConfig s).selector = s.selector ∧
      (enterConfig s).vision = s.vision ∧ (enterConfig s).cache = s.cache ∧ (enterConfig s).diag = s.diag ∧
      (enterConfig s).vPort = s.vPort ∧ (enterConfig s).reader = s.reader ∧
      (enterConfig s).freeIndex = s.freeIndex := by
  simp [enterConfig]

@[simp] theorem resetBlocks_frame (s : State) :
    (resetBlocks s).pending = s.pending ∧ (resetBlocks s).committed = s.committed ∧
      (resetBlocks s).vPort = s.vPort ∧ (resetBlocks s).reader = s.reader ∧
      (resetBlocks s).freeIndex = s.freeIndex := by
  simp [resetBlocks]

theorem TracksChange.frame {s u : State} (h : TracksChange s u) :
    u.pending = s.pending ∧ u.operating = s.operating ∧ u.working = s.working ∧ u.committed = s.committed ∧
      u.motion = s.motion ∧ u.selector = s.selector ∧ u.cache = s.cache ∧ u.builder = s.builder ∧
      u.store = s.store ∧ u.linkL = s.linkL ∧ u.linkR = s.linkR ∧ u.vPort = s.vPort ∧ u.reader = s.reader := by
  cases h <;> simp

theorem DrivingChange.frame {s u : State} (h : DrivingChange s u) :
    u.pending = s.pending ∧ u.operating = s.operating ∧ u.working = s.working ∧ u.committed = s.committed ∧
      u.cache = s.cache ∧ u.builder = s.builder ∧ u.store = s.store ∧ u.linkL = s.linkL ∧ u.linkR = s.linkR ∧
      u.vPort = s.vPort ∧ u.reader = s.reader := by
  cases h <;> simp

theorem CacheChange.frame {s u : State} (h : CacheChange s u) :
    u.pending = s.pending ∧ u.operating = s.operating ∧ u.working = s.working ∧ u.committed = s.committed ∧
      u.tracks = s.tracks ∧ u.motion = s.motion ∧ u.selector = s.selector ∧ u.vision = s.vision ∧
      u.builder = s.builder ∧ u.store = s.store ∧ u.linkL = s.linkL ∧ u.linkR = s.linkR ∧ u.vPort = s.vPort ∧
      u.reader = s.reader := by
  cases h <;> simp

theorem BuildChange.frame {s u : State} (h : BuildChange s u) :
    u.pending = s.pending ∧ u.operating = s.operating ∧ u.working = s.working ∧ u.committed = s.committed ∧
      u.tracks = s.tracks ∧ u.motion = s.motion ∧ u.selector = s.selector ∧ u.vision = s.vision ∧
      u.linkL = s.linkL ∧ u.linkR = s.linkR ∧ u.reader = s.reader := by
  cases h <;> simp [restartTimer, afterBlockWrite, afterCommit_frame]

theorem LinkChange.frame {x : Side} {s u : State} (h : LinkChange x s u) :
    u.pending = s.pending ∧ u.operating = s.operating ∧ u.working = s.working ∧ u.committed = s.committed ∧
      u.tracks = s.tracks ∧ u.motion = s.motion ∧ u.selector = s.selector ∧ u.vision = s.vision ∧
      u.cache = s.cache ∧ u.builder = s.builder ∧ u.vPort = s.vPort ∧ u.reader = s.reader := by
  cases h <;> simp [afterNote]

theorem DiagChange.frame {c : Instr} {s u : State} (h : DiagChange s c u) :
    u.pending = s.pending ∧ u.operating = s.operating ∧ u.working = s.working ∧ u.committed = s.committed ∧
      u.tracks = s.tracks ∧ u.motion = s.motion ∧ u.selector = s.selector ∧ u.vision = s.vision ∧
      u.cache = s.cache ∧ u.builder = s.builder ∧ u.linkL = s.linkL ∧ u.linkR = s.linkR ∧ u.vPort = s.vPort ∧
      u.store.slots = s.store.slots := by
  cases h <;> simp [answerRead]

theorem OperatingChange.frame {c : Instr} {s u : State} (h : OperatingChange s c u) :
    u.pending = s.pending ∧ u.vPort = s.vPort ∧ u.reader = s.reader := by
  cases h <;> simp

theorem PortChange.frame {s u : State} (h : PortChange s u) :
    u.pending = s.pending ∧ u.operating = s.operating ∧ u.working = s.working ∧ u.committed = s.committed ∧
      u.tracks = s.tracks ∧ u.motion = s.motion ∧ u.selector = s.selector ∧ u.vision = s.vision ∧
      u.cache = s.cache ∧ u.builder = s.builder ∧ u.store = s.store ∧ u.linkL = s.linkL ∧ u.linkR = s.linkR ∧
      u.diag = s.diag := by
  cases h <;> simp

/-! ## Every step -/

/-- A command that can stop is ignored there or stops. -/
theorem exec_of_stops {c : Instr} {s : State} (h : Stops c s) : exec c s = .next s ∨ ∃ f, exec c s = .fault f := by
  rcases h with ⟨rfl, hidle, hfree⟩ | ⟨⟨x, bytes, rfl⟩, hnone⟩
  · show execBuildTimerExpiry s = _ ∨ ∃ f, execBuildTimerExpiry s = _
    unfold execBuildTimerExpiry
    split
    · exact .inl rfl
    · simp [hidle, hfree]
  · show execFetch x bytes s = _ ∨ ∃ f, execFetch x bytes s = _
    unfold execFetch
    split
    · split
      · exact .inl rfl
      · simp [hnone]
    · exact .inl rfl

/-- The next state that a command answers. -/
theorem exec_next {c : Instr} {s t : State} (h : exec c s = .next t) :
    t = s ∨ (c = .powerOnReset ∧ t = afterPowerOnReset s) ∨ ∃ u, Change c s u ∧ t = beginTransmissions u := by
  by_cases hreset : c = .powerOnReset
  · subst hreset
    rw [exec_powerOnReset, Host.Outcome.next.injEq] at h
    exact .inr (.inl ⟨rfl, h.symm⟩)
  · by_cases hstops : Stops c s
    · rcases exec_of_stops hstops with hs | ⟨f, hf⟩
      · rw [hs, Host.Outcome.next.injEq] at h
        exact .inl h.symm
      · rw [hf] at h
        cases h
    · rcases exec_answers hreset hstops with hs | ⟨u, hu, hdone⟩
      · rw [hs, Host.Outcome.next.injEq] at h
        exact .inl h.symm
      · rw [hdone, done, Host.Outcome.next.injEq] at h
        exact .inr (.inr ⟨u, hu, h.symm⟩)

theorem step_nil {s : State} (h : s.pending = []) : step s = .next (tick s) := by
  unfold step
  rw [h]

theorem step_cons {s : State} {c : Instr} {rest : List Instr} (h : s.pending = c :: rest) :
    step s = exec c { s with pending := rest } := by
  unfold step
  rw [h]

/-- An invariant that does not speak of the queue is kept by every step when the ticking, the power-on reset and every change keep
it. -/
theorem keptByStep_of {inv : State → Prop} (hqueue : ∀ s rest, inv s → inv { s with pending := rest })
    (htick : ∀ s, inv s → inv (tick s)) (hreset : ∀ s, inv (afterPowerOnReset s))
    (hchange : ∀ c s u, inv s → Change c s u → inv (beginTransmissions u)) : KeptByStep inv := by
  intro s t hs hstep
  cases hpending : s.pending with
  | nil =>
    rw [step_nil hpending, Host.Outcome.next.injEq] at hstep
    exact hstep ▸ htick s hs
  | cons c rest =>
    rw [step_cons hpending] at hstep
    rcases exec_next hstep with rfl | ⟨-, rfl⟩ | ⟨u, hu, rfl⟩
    · exact hqueue s rest hs
    · exact hreset _
    · exact hchange c _ u (hqueue s rest hs) hu

/-! ## The queue -/

theorem Change.pending {c : Instr} {s u : State} (h : Change c s u) : u.pending = s.pending := by
  cases h with
  | unchanged => rfl
  | fault f => exact (raiseFault_frame f s).1
  | tracks h => exact h.frame.1
  | driving h => exact h.frame.1
  | cache h => exact h.frame.1
  | build h => exact h.frame.1
  | link x h => exact h.frame.1
  | diag h => exact h.frame.1
  | operating h => exact h.frame.1
  | port h => exact h.frame.1

theorem exec_pending {c : Instr} {s t : State} (h : exec c s = .next t) : t.pending = s.pending := by
  rcases exec_next h with rfl | ⟨-, rfl⟩ | ⟨u, hu, rfl⟩
  · rfl
  · rfl
  · exact hu.pending

/-! ## The operating state (Table 10-9) -/

@[simp] theorem enterConfig_operating (s : State) : (enterConfig s).operating = .config := by simp [enterConfig]

theorem configAccepted_iff (s : State) :
    configAccepted s = true ↔
      s.operating = .run ∧ s.motion.presence = .fresh ∧ ∃ m ∈ s.motion.record, m.v < 50 := by
  simp only [configAccepted, Bool.and_eq_true, beq_iff_eq, Option.any_eq_true, decide_eq_true_eq, and_assoc, Option.mem_def]
  rfl

/-- The changes that move the operating state. -/
theorem Change.operating_moved {c : Instr} {s u : State} (h : Change c s u) (hmoved : u.operating ≠ s.operating) :
    (∃ data, c = .calDone data ∧ s.operating = .config ∧ u.operating = .run) ∨
      (∃ data, c = .configEnter data ∧ s.operating = .run ∧ u.operating = .config) ∨ ∃ data, c = .restart data := by
  cases h with
  | unchanged => exact absurd rfl hmoved
  | fault f => exact absurd (by simp) hmoved
  | tracks h => exact absurd h.frame.2.1 hmoved
  | driving h => exact absurd h.frame.2.1 hmoved
  | cache h => exact absurd h.frame.2.1 hmoved
  | build h => exact absurd h.frame.2.1 hmoved
  | link x h => exact absurd h.frame.2.1 hmoved
  | diag h => exact absurd h.frame.2.1 hmoved
  | port h => exact absurd h.frame.2.1 hmoved
  | operating h =>
    cases h with
    | written _ p v _ => exact absurd (by simp) hmoved
    | ran data hconfig _ => exact .inl ⟨data, rfl, hconfig, by simp⟩
    | configured data haccepted =>
      exact .inr (.inl ⟨data, rfl, ((configAccepted_iff s).mp haccepted).1, by simp⟩)
    | restarted data => exact .inr (.inr ⟨data, rfl⟩)
    | restartedAnew data => exact .inr (.inr ⟨data, rfl⟩)

/-! ## The capture record (R161) -/

/-- A filled capture record is still filled with the same report, and its further flag is not cleared. -/
def CaptureKept (s u : State) : Prop :=
  ∀ c, s.diag.capture = some c →
    ∃ further, u.diag.capture = some { report := c.report, further := further } ∧ (c.further = true → further = true)

theorem CaptureKept.of_eq {s u : State} (h : u.diag.capture = s.diag.capture) : CaptureKept s u :=
  fun c hc => ⟨c.further, h.trans hc, id⟩

theorem CaptureKept.refl (s : State) : CaptureKept s s := .of_eq rfl

theorem CaptureKept.trans {s u v : State} (hsu : CaptureKept s u) (huv : CaptureKept u v) : CaptureKept s v := by
  intro c hc
  obtain ⟨f, hf, hcf⟩ := hsu c hc
  obtain ⟨g, hg, hfg⟩ := huv _ hf
  exact ⟨g, hg, hfg ∘ hcf⟩

theorem captureKept_raiseFault (f : FaultReport) (s : State) : CaptureKept s (raiseFault f s) := by
  intro c hc
  refine ⟨true, ?_, fun _ => rfl⟩
  rw [raiseFault_capture, hc]

theorem captureKept_raiseNotice (k : NoticeKind) (s : State) : CaptureKept s (raiseNotice k s) :=
  .of_eq (by simp [raiseNotice_eq])

/-- What is kept from a state with the same record. -/
theorem CaptureKept.after {s u v : State} (h : CaptureKept u v) (hsame : u.diag.capture = s.diag.capture) :
    CaptureKept s v := (CaptureKept.of_eq hsame).trans h

theorem captureKept_takeRecord (i : Nat) (r : TrackRecord) (s : State) : CaptureKept s (takeRecord i r s) := by
  unfold takeRecord
  split
  · exact captureKept_raiseFault _ s
  · split
    · exact .of_eq rfl
    · exact captureKept_raiseFault _ s

theorem captureKept_takeRecords (records : List (Nat × TrackRecord)) (s : State) :
    CaptureKept s (takeRecords records s) := by
  induction records generalizing s with
  | nil => exact .refl s
  | cons r rest ih => exact (captureKept_takeRecord r.1 r.2 s).trans (ih _)

theorem captureKept_repeatMotion (s : State) : CaptureKept s (repeatMotion s) := by
  unfold repeatMotion
  dsimp only
  split
  · exact CaptureKept.after (captureKept_raiseFault _ _) rfl
  · exact .of_eq rfl

theorem captureKept_lookupMiss (d : Nat) (s : State) : CaptureKept s (lookupMiss d s) :=
  .of_eq (by rw [lookupMiss_diag])

theorem captureKept_lookup (d sequence : Nat) (s : State) : CaptureKept s (lookup d sequence s).1 := by
  unfold lookup
  split
  · exact captureKept_lookupMiss d s
  next w _ =>
    split
    · exact .of_eq rfl
    · have hparity : CaptureKept s (lookupParity d sequence w s) := CaptureKept.after (captureKept_raiseFault _ _) rfl
      exact hparity.trans (captureKept_lookupMiss d _)

theorem captureKept_startBuild (slot : Fin 6) (s : State) : CaptureKept s (startBuild slot s) := by
  have hlookup : ∀ mode sequence (v : State), CaptureKept v (lookupFor mode sequence v).1 := by
    intro mode sequence v
    unfold lookupFor
    split
    · exact .refl v
    · exact captureKept_lookup _ _ v
  exact CaptureKept.after ((hlookup _ _ { s with store := s.store.claim slot }).trans (.of_eq rfl)) rfl

theorem captureKept_raiseBand (sequence : Nat) (lamp : Side) (band : BudgetBand) (s : State) :
    CaptureKept s (raiseBand sequence lamp band s) := by
  cases band with
  | green => exact .refl s
  | yellow => exact captureKept_raiseNotice _ s
  | red => exact captureKept_raiseFault _ s

theorem captureKept_raiseBands (b : Build) (s : State) : CaptureKept s (raiseBands b s) := by
  unfold raiseBands
  exact (captureKept_raiseBand _ _ _ s).trans (captureKept_raiseBand _ _ _ _)

theorem captureKept_checkDeadLimit (x : Side) (limit : Nat) (s : State) : CaptureKept s (checkDeadLimit x limit s) := by
  unfold checkDeadLimit
  dsimp only
  split
  · split
    · exact .refl s
    · exact CaptureKept.after (captureKept_raiseFault _ _) (by simp)
  · exact .of_eq (by simp)

theorem captureKept_takeLampState (x : Side) (temp : Int) (ok : Bool) (entries : List Nat) (s : State) :
    CaptureKept s (takeLampState x temp ok entries s) := by
  unfold takeLampState
  dsimp only
  refine CaptureKept.trans ?_ (captureKept_checkDeadLimit x _ _)
  split
  · exact CaptureKept.after (captureKept_raiseNotice _ _) (by simp)
  · exact .of_eq (by simp)

theorem captureKept_demandResend (x : Side) (t : Transfer) (s : State) : CaptureKept s (demandResend x t s) := by
  unfold demandResend
  split
  · exact .of_eq (by simp)
  · exact CaptureKept.after (captureKept_raiseFault _ _) (by simp)

theorem captureKept_placeFill (d : Nat) (values : List Nat) (s : State) : CaptureKept s (placeFill d values s) := by
  unfold placeFill
  split
  · exact .of_eq (by simp)
  · split
    · exact CaptureKept.after (captureKept_raiseFault _ _) rfl
    · exact .of_eq (by simp)
    · exact .of_eq (by simp)

theorem captureKept_writeParam (p : Param) (v : Int) (s : State) : CaptureKept s (writeParam p v s) := by
  unfold writeParam
  dsimp only
  split
  · exact .of_eq rfl
  · exact CaptureKept.after (captureKept_raiseNotice _ _) rfl

theorem captureKept_reportChange (s : State) : CaptureKept s (reportChange s) := .of_eq (by rw [reportChange_diag])

theorem resetBlocks_diag (s : State) : (resetBlocks s).diag = { s.diag with notices := 0 } := by simp [resetBlocks]

theorem TracksChange.captureKept {s u : State} (h : TracksChange s u) : CaptureKept s u := by
  cases h with
  | refreshed => exact .of_eq rfl
  | refused f => exact CaptureKept.after (captureKept_raiseFault f _) rfl
  | taken data => exact CaptureKept.after (captureKept_takeRecords _ _) rfl
  | ended id => exact .of_eq rfl
  | removed id => exact .of_eq rfl

theorem DrivingChange.captureKept {s u : State} (h : DrivingChange s u) : CaptureKept s u := by
  cases h with
  | repeated => exact captureKept_repeatMotion s
  | lost => exact CaptureKept.after (captureKept_raiseFault _ _) rfl
  | visionLost => exact CaptureKept.after (captureKept_raiseFault _ _) rfl
  | accepted data => exact .of_eq (by simp)
  | lane | scene | stale | driver | flashSpent => exact .of_eq rfl

theorem CacheChange.captureKept {s u : State} (h : CacheChange s u) : CaptureKept s u := by
  cases h with
  | placed f data => exact CaptureKept.after (captureKept_placeFill _ _ _) rfl
  | givenUp r => exact CaptureKept.after (captureKept_raiseFault _ _) rfl
  | opened | dropped | cleared | locked | sentAgain => exact .of_eq rfl

theorem BuildChange.captureKept {s u : State} (h : BuildChange s u) : CaptureKept s u := by
  cases h with
  | overrun b => exact CaptureKept.after (captureKept_raiseFault _ _) rfl
  | started slot => exact CaptureKept.after (captureKept_startBuild slot _) rfl
  | computed b =>
    exact (captureKept_raiseBands b s).trans (.of_eq (by simp [afterCompute]))
  | blockWritten => exact .of_eq (by simp [afterBlockWrite])
  | committed b f => exact .of_eq (by simp [afterCommit, commitStatus, commitNotices_diag])

theorem LinkChange.captureKept {x : Side} {s u : State} (h : LinkChange x s u) : CaptureKept s u := by
  cases h with
  | lampState bytes temp ok entries => exact captureKept_takeLampState x temp ok entries s
  | lost => exact (CaptureKept.after (captureKept_raiseFault _ _) (by simp)).trans (captureKept_raiseNotice _ _)
  | resent t => exact captureKept_demandResend x t s
  | discarded | headerSent | blockSent | compared | wireFreed | fetched | acknowledged | quitted =>
    exact .of_eq (by simp [afterNote])

/-- A CLEAR_FAULTS with the release flag alone empties a filled record. -/
theorem DiagChange.captureKept_or {c : Instr} {s u : State} (h : DiagChange s c u) :
    CaptureKept s u ∨
      (u.diag.capture = none ∧ ∃ data, c = .clearFaults data ∧ data.length = 3 ∧ (byteAt data 2).testBit 0 = true) := by
  cases h with
  | faultsCleared data hlen =>
    by_cases hrelease : bitAt data 2 0 = true
    · exact .inr ⟨if_pos hrelease, data, rfl, hlen, hrelease⟩
    · exact .inl (.of_eq (if_neg hrelease))
  | noticesCleared | masked | unmasked | answered | asked | read => exact .inl (.of_eq (by simp [answerRead]))

theorem OperatingChange.captureKept {c : Instr} {s u : State} (h : OperatingChange s c u) : CaptureKept s u := by
  cases h with
  | written _ p v => exact captureKept_writeParam p v s
  | ran data => exact CaptureKept.after (captureKept_reportChange _) rfl
  | configured data => exact CaptureKept.after (captureKept_reportChange _) (by simp)
  | restarted data => exact .of_eq (by rw [resetBlocks_diag])
  | restartedAnew data => exact CaptureKept.after (captureKept_reportChange _) (by rw [resetBlocks_diag])

theorem Change.captureKept_or {c : Instr} {s u : State} (h : Change c s u) :
    CaptureKept s u ∨
      (u.diag.capture = none ∧ ∃ data, c = .clearFaults data ∧ data.length = 3 ∧ (byteAt data 2).testBit 0 = true) := by
  cases h with
  | unchanged => exact .inl (.refl s)
  | fault f => exact .inl (captureKept_raiseFault f s)
  | tracks h => exact .inl h.captureKept
  | driving h => exact .inl h.captureKept
  | cache h => exact .inl h.captureKept
  | build h => exact .inl h.captureKept
  | link x h => exact .inl h.captureKept
  | diag h => exact h.captureKept_or
  | operating h => exact .inl h.captureKept
  | port h =>
    obtain ⟨-, -, -, -, -, -, -, -, -, -, -, -, -, hdiag⟩ := h.frame
    exact .inl (.of_eq (by rw [hdiag]))

end Sys2Proof.Machine

namespace Sys2Proof.Proofs

open Sys2Proof.Machine

/-- Settles O1: a step takes the front command, and no change touches the queue. -/
theorem frontCommandIsCarriedOut : Obligations.FrontCommandIsCarriedOut := by
  intro c rest s hpending
  have hstep := step_cons hpending
  exact ⟨hstep, fun t ht => exec_pending (hstep.symm.trans ht)⟩

/-- Settles O8: of the changes, those of CAL_DONE, CONFIG_ENTER and RESTART alone move the operating state. -/
theorem onlyFourCommandsMoveOperatingState : Obligations.OnlyFourCommandsMoveOperatingState := by
  intro c s t hexec hmoved
  rcases exec_next hexec with rfl | ⟨rfl, rfl⟩ | ⟨u, hu, rfl⟩
  · exact absurd rfl hmoved
  · exact .inr (.inr (.inr ⟨rfl, rfl⟩))
  · rcases hu.operating_moved hmoved with h | h | h
    · exact .inl h
    · exact .inr (.inl h)
    · exact .inr (.inr (.inl h))

/-- Settles O50: every change keeps a filled record, but for a CLEAR_FAULTS with the release flag. -/
theorem filledCaptureRecordIsLocked : Obligations.FilledCaptureRecordIsLocked := by
  intro s t c hc hstep
  cases hpending : s.pending with
  | nil =>
    rw [step_nil hpending, Host.Outcome.next.injEq] at hstep
    exact .inl (hstep ▸ CaptureKept.of_eq rfl c hc)
  | cons i rest =>
    rw [step_cons hpending] at hstep
    rcases exec_next hstep with rfl | ⟨rfl, rfl⟩ | ⟨u, hu, rfl⟩
    · exact .inl (CaptureKept.refl s c hc)
    · exact .inr (.inl ⟨rfl, rest, rfl⟩)
    · rcases hu.captureKept_or with hkept | ⟨hnone, data, rfl, hlen, hrelease⟩
      · exact .inl (hkept c hc)
      · exact .inr (.inr ⟨hnone, data, rest, rfl, hlen, hrelease⟩)

end Sys2Proof.Proofs
end

section
/-! SUPPORT. The track table through every step (Chapter 1): what each of its changes keeps, and then the proofs of the statements. -/

namespace Sys2Proof.Machine

/-! ## The bytes of a message -/

theorem byteAt_lt (data : List Byte) (i : Nat) : byteAt data i < 256 := (data.getD i 0).isLt

theorem tracksLengthOk_iff (data : List Byte) : tracksLengthOk data = true ↔ LengthFits 0x1C0 data := by
  have hrow : LengthFits 0x1C0 data ↔ ∀ lengths ∈ (tableLengths data).head?, data.length ∈ lengths.2 := by
    simp [LengthFits, tableLengths]
  rw [hrow, tracksLengthOk, beq_iff_eq, tracksCount, tableLengths]
  generalize data.length = length
  match byteAt data 0 with
  | 0 => simp [tracksLength]
  | 1 | 2 | 3 | 4 | 5 | 6 => simp [tracksLength, eq_comm (b := length)]
  | n + 7 => simp [tracksLength]

/-! ## A table in order (R1, R2) -/

/-- At most 24 entries, of distinct ids, each in range. -/
def TableOk (tracks : List TrackEntry) : Prop :=
  tracks.length ≤ 24 ∧ (tracks.map (·.id)).Nodup ∧ ∀ e ∈ tracks, e.InRange

theorem trackTableInv_iff (s : State) : TrackTableInv s ↔ TableOk s.tracks := Iff.rfl

theorem TableOk.nil : TableOk [] := by simp [TableOk]

theorem TableOk.removeTrack {tracks : List TrackEntry} (h : TableOk tracks) (id : Nat) : TableOk (removeTrack id tracks) := by
  obtain ⟨hlength, hids, hrange⟩ := h
  exact ⟨(List.length_filter_le _ _).trans hlength, hids.sublist (List.filter_sublist.map _),
    fun e he => hrange e (List.mem_of_mem_filter he)⟩

/-- Entries changed in place, each keeping its id. -/
theorem TableOk.map {tracks : List TrackEntry} (h : TableOk tracks) {f : TrackEntry → TrackEntry} (hid : ∀ e, (f e).id = e.id)
    (hf : ∀ e, e.InRange → (f e).InRange) : TableOk (tracks.map f) := by
  obtain ⟨hlength, hids, hrange⟩ := h
  refine ⟨by rwa [List.length_map], ?_, ?_⟩
  · rw [List.map_map, show (fun e : TrackEntry => e.id) ∘ f = fun e => e.id from funext hid]
    exact hids
  · intro e he
    obtain ⟨old, hold, rfl⟩ := List.mem_map.mp he
    exact hf old (hrange old hold)

theorem TableOk.append {tracks : List TrackEntry} (h : TableOk tracks) {e : TrackEntry} (hroom : tracks.length < 24)
    (hnew : ∀ old ∈ tracks, old.id ≠ e.id) (he : e.InRange) : TableOk (tracks ++ [e]) := by
  obtain ⟨-, hids, hrange⟩ := h
  refine ⟨by simpa using hroom, ?_, ?_⟩
  · rw [List.map_append, List.nodup_append]
    refine ⟨hids, List.nodup_singleton _, ?_⟩
    rintro _ ha _ hb rfl
    obtain ⟨old, hold, heq⟩ := List.mem_map.mp ha
    exact hnew old hold (heq.trans (List.mem_singleton.mp hb))
  · intro x hx
    rcases List.mem_append.mp hx with hx | hx
    · exact hrange x hx
    · exact List.mem_singleton.mp hx ▸ he

theorem mem_of_victim {tracks : List TrackEntry} {v : TrackEntry} (h : victim tracks = some v) : v ∈ tracks := by
  obtain ⟨p, hp⟩ := exists_givenUpFirst_of_victim h
  exact List.mem_of_getElem? hp.1

/-- The victim's displacement makes room. -/
theorem length_removeTrack_lt {tracks : List TrackEntry} {v : TrackEntry} (h : v ∈ tracks) :
    (removeTrack v.id tracks).length < tracks.length :=
  List.length_filter_lt_length_iff_exists.mpr ⟨v, h, by simp⟩

theorem TableOk.admitTrack {tracks tracks' : List TrackEntry} (h : TableOk tracks) {e : TrackEntry} (he : e.InRange)
    (hadmit : admitTrack e tracks = some tracks') : TableOk tracks' := by
  unfold Machine.admitTrack at hadmit
  split at hadmit
  next =>
    cases hadmit
    rw [updateTrack_eq]
    refine h.map (fun old => ?_) fun old hold => ?_
    · split
      next heq => exact heq.symm
      next => rfl
    · split
      · exact he
      · exact hold
  next habsent =>
    have hnew : ∀ old ∈ tracks, old.id ≠ e.id := fun old hold heq => habsent ((isPresent_iff _ _).mpr ⟨old, hold, heq⟩)
    split at hadmit
    next hroom =>
      cases hadmit
      exact h.append hroom hnew he
    next =>
      split at hadmit
      next => cases hadmit
      next v hv =>
        split at hadmit <;> cases hadmit
        refine (h.removeTrack v.id).append ((length_removeTrack_lt (mem_of_victim hv)).trans_le h.1) ?_ he
        exact fun old hold => hnew old (List.mem_of_mem_filter hold)

/-! ## One record -/

/-- A well-formed record's entry is in range; the record's id, a byte, is neither 0 nor 255. -/
theorem entry_inRange {r : TrackRecord} (hid : r.id < 256) (h : r.malformed = false) : r.entry.InRange := by
  have hok : ¬r.malformed = true := Bool.eq_false_iff.mp h
  rw [malformed_iff, not_not] at hok
  obtain ⟨h0, h255, -, hθ⟩ := hok
  simp only [TrackEntry.InRange, TrackRecord.entry, clamp_eq _ (by decide : (-3000 : Int) ≤ 3000),
    clamp_eq _ (by decide : (-1000 : Int) ≤ 1000)]
  omega

theorem tableOk_takeRecord {i : Nat} {r : TrackRecord} {s : State} (hid : r.id < 256) (h : TableOk s.tracks) :
    TableOk (takeRecord i r s).tracks := by
  unfold takeRecord
  split
  · simpa using h
  next hform =>
    split
    next tracks hadmit => exact h.admitTrack (entry_inRange hid (Bool.eq_false_iff.mpr hform)) hadmit
    · simpa using h

theorem tableOk_takeRecords {records : List (Nat × TrackRecord)} {s : State} (hid : ∀ r ∈ records, r.2.id < 256)
    (h : TableOk s.tracks) : TableOk (takeRecords records s).tracks := by
  induction records generalizing s with
  | nil => exact h
  | cons r rest ih =>
    have hr : r.2.id < 256 := hid r List.mem_cons_self
    exact ih (fun q hq => hid q (List.mem_cons_of_mem _ hq)) (tableOk_takeRecord hr h)

theorem id_of_mem_tracksRecords {data : List Byte} {r : Nat × TrackRecord} (h : r ∈ tracksRecords data) : r.2.id < 256 := by
  obtain ⟨i, -, rfl⟩ := List.mem_map.mp h
  exact byteAt_lt data _

/-! ## Release and ageing -/

theorem TableOk.endTrack {tracks : List TrackEntry} (h : TableOk tracks) (id hold : Nat) : TableOk (endTrack id hold tracks) := by
  unfold Machine.endTrack
  split
  · exact h
  · split
    · exact h
    · split
      · exact h.removeTrack id
      · rw [releaseTrack_eq]
        refine h.map (fun e => ?_) fun e he => ?_ <;> split
        · rfl
        · rfl
        · exact he
        · exact he

theorem tableOk_ageTracks {s : State} (h : TableOk s.tracks) : TableOk (ageTracks s) := by
  unfold ageTracks
  split
  · exact h
  · exact h.map (fun _ => rfl) fun _ he => he

/-! ## Every change -/

theorem TracksChange.tableOk {s u : State} (h : TracksChange s u) (hs : TableOk s.tracks) : TableOk u.tracks := by
  cases h with
  | refreshed => exact hs
  | refused f => simpa using hs
  | taken data => exact tableOk_takeRecords (fun r hr => id_of_mem_tracksRecords hr) hs
  | ended id => exact hs.endTrack id _
  | removed id => exact hs.removeTrack id

theorem DrivingChange.tracks {s u : State} (h : DrivingChange s u) : u.tracks = s.tracks ∨ u.tracks = [] := by
  cases h <;> simp

theorem OperatingChange.tracks {c : Instr} {s u : State} (h : OperatingChange s c u) : u.tracks = s.tracks ∨ u.tracks = [] := by
  cases h <;> simp [enterConfig, resetBlocks]

theorem Change.tableOk {c : Instr} {s u : State} (h : Change c s u) (hs : TableOk s.tracks) : TableOk u.tracks := by
  have hkept {v : State} (hv : v.tracks = s.tracks) : TableOk v.tracks := hv ▸ hs
  have hemptied {v : State} (hv : v.tracks = s.tracks ∨ v.tracks = []) : TableOk v.tracks :=
    hv.elim hkept fun hnil => hnil ▸ .nil
  cases h with
  | unchanged => exact hs
  | fault f => exact hkept (by simp)
  | tracks h => exact h.tableOk hs
  | driving h => exact hemptied h.tracks
  | cache h => exact hkept (by simp [h.frame])
  | build h => exact hkept (by simp [h.frame])
  | link x h => exact hkept (by simp [h.frame])
  | diag h => exact hkept (by simp [h.frame])
  | operating h => exact hemptied h.tracks
  | port h => exact hkept (by simp [h.frame])

/-! ## TRACKS and the timers of an entry -/

theorem mem_tracksRecords {data : List Byte} {i : Nat} {r : TrackRecord} (h : (i, r) ∈ tracksRecords data) :
    r = trackRecordAt data (4 + 10 * i) := by
  obtain ⟨j, -, hj⟩ := List.mem_map.mp h
  cases hj
  rfl

theorem unsigned32_eq (data : List Byte) (p : Nat) :
    unsigned32 data p = ((byteAt data p * 256 + byteAt data (p + 1)) * 256 + byteAt data (p + 2)) * 256 + byteAt data (p + 3) := by
  have hadd : p + 2 + 1 = p + 3 := rfl
  simp only [unsigned32, unsigned16, hadd]
  omega

theorem signed16_eq (data : List Byte) (i : Nat) :
    signed16 data i = if byteAt data i < 128 then (unsigned16 data i : Int) else unsigned16 data i - 65536 := by
  have hlow := byteAt_lt data (i + 1)
  unfold signed16 twosComplement
  have hsign : unsigned16 data i < 2 ^ (16 - 1) ↔ byteAt data i < 128 := by
    unfold unsigned16
    omega
  exact if_congr hsign rfl rfl

section Tracks

variable {data : List Byte} {s : State} (hbus : s.vPort.busOff = false) (hlen : LengthFits 0x1C0 data)
include hbus hlen

theorem gives_tracks_config (hop : s.operating = .config) : Gives (.tracks data) s (refreshVision s) := by
  show execTracks data s = _
  rw [execTracks, (tracksLengthOk_iff data).mpr hlen, receiveV_ok _ _ _ hbus, refreshVision_operating, hop]
  rfl

theorem gives_tracks_run (hop : s.operating = .run) :
    Gives (.tracks data) s (takeRecords (tracksRecords data) (refreshVision s)) := by
  show execTracks data s = _
  rw [execTracks, (tracksLengthOk_iff data).mpr hlen, receiveV_ok _ _ _ hbus, refreshVision_operating, hop]
  rfl

end Tracks

theorem gives_trackAgeExpiry {id : Nat} {s : State} (h : ∃ e ∈ s.tracks, e.id = id) :
    Gives (.trackAgeExpiry id) s { s with tracks := removeTrack id s.tracks } := by
  show execTrackAgeExpiry id s = _
  rw [execTrackAgeExpiry, if_pos ((isPresent_iff id s.tracks).mpr h)]
  rfl

theorem gives_releaseTimerExpiry {s : State} {e : TrackEntry} {remaining : Nat} (hids : (s.tracks.map (·.id)).Nodup)
    (he : e ∈ s.tracks) (hlife : e.life = .releasing remaining) :
    Gives (.releaseTimerExpiry e.id) s { s with tracks := removeTrack e.id s.tracks } := by
  show execReleaseTimerExpiry e.id s = _
  rw [execReleaseTimerExpiry, findTrack_of_mem hids he]
  obtain ⟨⟩ := e
  subst hlife
  rfl

theorem exec_trackTimers_absent {id : Nat} {s : State} (h : ∀ e ∈ s.tracks, e.id ≠ id) :
    exec (.trackAgeExpiry id) s = .next s ∧ exec (.releaseTimerExpiry id) s = .next s := by
  refine ⟨if_neg (Bool.eq_false_iff.mp (isPresent_eq_false h)), ?_⟩
  show execReleaseTimerExpiry id s = _
  rw [execReleaseTimerExpiry, findTrack_absent h]

end Sys2Proof.Machine

namespace Sys2Proof.Proofs

open Sys2Proof.Machine

/-- Settles O51: records, releases and ageing keep the table in order, and every other change keeps or empties it. -/
theorem trackTableKeptByEveryStep : Obligations.TrackTableKeptByEveryStep :=
  keptByStep_of (fun _ _ hs => hs) (fun _ hs => tableOk_ageTracks hs) (fun _ => TableOk.nil) fun _ _ _ hs hu => hu.tableOk hs

/-- Settles O12: the message by the operating state, its records by their places, and the fields by their bytes. -/
theorem tracksTakenRecordByRecord : Obligations.TracksTakenRecordByRecord := by
  refine ⟨fun data s hbus hlen => ⟨gives_tracks_config hbus hlen, gives_tracks_run hbus hlen, ?indices, ?record⟩,
    fun data i => ⟨?byte, rfl, signed16_eq data i⟩, fun _ => rfl, fun _ _ _ _ => rfl⟩
  case indices => simp [tracksRecords, tracksCount, Function.comp_def]
  case record =>
    intro i r hr b word
    have hword : unsigned32 data (4 + 10 * i + 6) = word := unsigned32_eq data _
    obtain rfl := mem_tracksRecords hr
    refine ⟨rfl, rfl, rfl, rfl, ?_, ?_, ?_⟩ <;> simp only [trackRecordAt, hword]
    rfl
  case byte =>
    intro b hb
    simp [byteAt, hb]

/-- Settles O16: the entry of the id is the one found, and removing it filters the table. -/
theorem trackTimersRemoveTheirEntry : Obligations.TrackTimersRemoveTheirEntry := by
  intro id s hids removed
  have hremoved : { s with tracks := removeTrack id s.tracks } = removed := by rw [removeTrack_eq]
  refine ⟨fun e he hid => ?_, exec_trackTimers_absent⟩
  subst hid
  rw [← hremoved]
  exact ⟨gives_trackAgeExpiry ⟨e, he, rfl⟩, fun remaining hlife => gives_releaseTimerExpiry hids he hlife⟩

end Sys2Proof.Proofs
end

section
/-! SUPPORT. The motion unit, the mode selector and the vision presence through every step (Chapters 2 and 3): what each of their
changes keeps, the presence timer, the loss of vision, the selection, and then the proofs of the statements. -/

namespace Sys2Proof.Machine

/-! ## Timers 1 ms on -/

/-- A timer below its limit stays below it. -/
theorem mem_advance {limit n : Nat} {t : Option Nat} (h : n ∈ advance limit t) :
    ∃ m ∈ t, m ≤ n ∧ (m < limit → n < limit) := by
  obtain ⟨m, hm, hmn⟩ := Option.mem_map.mp h
  refine ⟨m, hm, ?_⟩
  split at hmn <;> omega

@[simp] theorem advance_isSome (limit : Nat) (t : Option Nat) : (advance limit t).isSome = t.isSome := by
  simp [advance]

theorem advance_lt {limit : Nat} {t : Option Nat} (h : ∀ n ∈ t, n < limit) : ∀ n ∈ advance limit t, n < limit := by
  intro n hn
  obtain ⟨m, hm, -, hlt⟩ := mem_advance hn
  exact hlt (h m hm)

theorem exists_advance {limit m : Nat} {t : Option Nat} (hm : m ∈ t) (hlt : m < limit) :
    ∃ n ∈ advance limit t, m ≤ n ∧ n < limit := by
  refine ⟨_, Option.mem_map_of_mem _ hm, ?_⟩
  split <;> omega

/-! ## The motion unit (R24 to R30) -/

/-- The motion unit in order: ranges, presence, frozen flag and lane record. -/
def MotionUnit.UnitOk (u : MotionUnit) : Prop :=
  (∀ r ∈ u.record, r.InRange) ∧ u.PresenceOk ∧ (u.frozenRaised = true ↔ 3 ≤ u.runCount) ∧
    (∀ l ∈ u.lane, -20000 ≤ l.kappa ∧ l.kappa ≤ 20000 ∧ l.conf ≤ 100)

theorem motionInv_iff (s : State) : MotionInv s ↔ s.motion.UnitOk := Iff.rfl

theorem motionFields_inRange (data : List Byte) : (motionFields data).InRange := by
  have halive : byteAt data 8 % 16 < 16 := Nat.mod_lt _ (by decide)
  simp only [MotionRecord.InRange, motionFields, clamp_eq _ (by decide : (-10000 : Int) ≤ 10000),
    clamp_eq _ (by decide : (-500 : Int) ≤ 500)]
  omega

theorem laneFields_inRange (data : List Byte) :
    -20000 ≤ (laneFields data).kappa ∧ (laneFields data).kappa ≤ 20000 ∧ (laneFields data).conf ≤ 100 := by
  simp only [laneFields, clamp_eq _ (by decide : (-20000 : Int) ≤ 20000)]
  omega

theorem motionUnitOk_reset : resetMotion.UnitOk := by simp [MotionUnit.UnitOk, MotionUnit.PresenceOk, resetMotion]

namespace MotionUnit.UnitOk

variable {u : MotionUnit}

/-- Of the presences, FRESH and STALE have a record and a timer, and LOST has no timer. -/
theorem lane (h : u.UnitOk) (data : List Byte) : ({ u with lane := some (laneFields data) } : MotionUnit).UnitOk := by
  obtain ⟨hrecord, hpresence, hfrozen, -⟩ := h
  refine ⟨hrecord, hpresence, hfrozen, ?_⟩
  rintro _ ⟨⟩
  exact laneFields_inRange data

theorem accepted (h : u.UnitOk) (data : List Byte) :
    ({ u with
      record := some (motionFields data), presence := .fresh, timer := some 0, runCount := 0
      frozenRaised := false } : MotionUnit).UnitOk := by
  obtain ⟨-, -, -, hlane⟩ := h
  refine ⟨?_, ⟨rfl, 0, rfl, by decide⟩, by simp, hlane⟩
  rintro _ ⟨⟩
  exact motionFields_inRange data

theorem stale (h : u.UnitOk) (hfresh : u.presence = .fresh) :
    ({ u with presence := .stale, timer := some Config.staleLimit } : MotionUnit).UnitOk := by
  obtain ⟨hrecord, hpresence, hfrozen, hlane⟩ := h
  unfold PresenceOk at hpresence
  rw [hfresh] at hpresence
  exact ⟨hrecord, ⟨hpresence.1, _, rfl, by decide⟩, hfrozen, hlane⟩

theorem lost (h : u.UnitOk) : ({ u with presence := .lost, timer := none } : MotionUnit).UnitOk := by
  obtain ⟨hrecord, -, hfrozen, hlane⟩ := h
  exact ⟨hrecord, rfl, hfrozen, hlane⟩

/-- The frozen flag is set at the third repeat of a run. -/
theorem counted (h : u.UnitOk) {frozen : Bool} (hnew : frozen = true ↔ 3 ≤ u.runCount + 1) :
    ({ u with runCount := u.runCount + 1, frozenRaised := frozen } : MotionUnit).UnitOk := by
  obtain ⟨hrecord, hpresence, -, hlane⟩ := h
  exact ⟨hrecord, hpresence, hnew, hlane⟩

/-- The presence timer runs under the limit of its presence. -/
theorem ticked (h : u.UnitOk) :
    ({ u with
      timer := advance (presenceLimit u) u.timer
      lane := u.lane.map fun l => { l with age := l.age + 1 } } : MotionUnit).UnitOk := by
  obtain ⟨hrecord, hpresence, hfrozen, hlane⟩ := h
  refine ⟨hrecord, ?_, hfrozen, ?_⟩
  · unfold PresenceOk at hpresence ⊢
    unfold presenceLimit
    cases hp : u.presence with
    | fresh =>
      simp only [hp] at hpresence
      obtain ⟨hsome, n, hn, hlt⟩ := hpresence
      obtain ⟨m, hm, -, hm100⟩ := exists_advance (limit := Config.staleLimit) hn hlt
      exact ⟨hsome, m, hm, hm100⟩
    | stale =>
      simp only [hp] at hpresence
      obtain ⟨hsome, n, hn, hge, hlt⟩ := hpresence
      obtain ⟨m, hm, hnm, hm500⟩ := exists_advance (limit := Config.lostLimit) hn hlt
      exact ⟨hsome, m, hm, hge.trans hnm, hm500⟩
    | lost =>
      simp only [hp] at hpresence
      rw [hpresence]
      rfl
  · intro l hl
    obtain ⟨old, hold, rfl⟩ := Option.mem_map.mp hl
    exact hlane old hold

end MotionUnit.UnitOk

theorem motionUnitOk_repeatMotion {s : State} (h : s.motion.UnitOk) : (repeatMotion s).motion.UnitOk := by
  obtain ⟨-, -, hfrozen, -⟩ := id h
  by_cases hthird : 3 ≤ s.motion.runCount + 1 ∧ s.motion.frozenRaised = false
  · rw [repeatMotion_third hthird]
    simpa using h.counted (frozen := true) (by simpa using hthird.1)
  · rw [repeatMotion_unraised hthird]
    refine h.counted ⟨fun hraised => Nat.le_succ_of_le (hfrozen.mp hraised), fun hcount => ?_⟩
    exact Bool.of_not_eq_false fun hclear => hthird ⟨hcount, hclear⟩

/-! ## The mode selector (R43 to R54) -/

/-- The mode selector in order, but for its gate: request, confirmation record and ambient. -/
def ModeSelector.FormOk (m : ModeSelector) : Prop :=
  m.RequestOk ∧ m.RecordOk ∧ ∀ lux ∈ m.scene.ambient, lux ≤ 10000

theorem selectorInv_iff (s : State) :
    SelectorInv s ↔ s.selector.FormOk ∧ (s.motion.presence = .lost → s.selector.gate = .closed) := by
  simp only [SelectorInv, ModeSelector.FormOk, and_assoc]

theorem formOk_reset : resetSelector.FormOk := by
  simp [ModeSelector.FormOk, ModeSelector.RequestOk, ModeSelector.RecordOk, resetSelector]

namespace ModeSelector.FormOk

variable {m : ModeSelector}

theorem gate (h : m.FormOk) (g : SpeedGate) : ({ m with gate := g } : ModeSelector).FormOk := h

theorem scene (h : m.FormOk) (data : List Byte) : ({ m with scene := sceneFields data } : ModeSelector).FormOk := by
  obtain ⟨hrequest, hrecord, -⟩ := h
  refine ⟨hrequest, hrecord, ?_⟩
  rintro _ ⟨⟩
  exact Nat.min_le_right _ _

theorem clearSceneFlags (h : m.FormOk) : ({ m with scene := clearSceneFlags m.scene } : ModeSelector).FormOk := h

theorem takeDriver (h : m.FormOk) (r : DriverRequest) : (takeDriver r m).FormOk := by
  obtain ⟨-, hrecord, hambient⟩ := id h
  cases r with
  | steady q => exact ⟨rfl, hrecord, hambient⟩
  | flash =>
    cases hflash : m.flash with
    | idle =>
      rw [takeDriver_flash_idle hflash]
      exact ⟨rfl, hrecord, hambient⟩
    | active n =>
      rw [takeDriver_flash_active hflash]
      refine ⟨?_, hrecord, hambient⟩
      simp [RequestOk, hflash]
    | spent =>
      rw [takeDriver_flash_spent hflash]
      exact h

theorem spendFlash (h : m.FormOk) : (spendFlash m).FormOk := by
  obtain ⟨-, hrecord, hambient⟩ := h
  exact ⟨rfl, hrecord, hambient⟩

theorem recheckFlash (h : m.FormOk) (flashMax : Nat) : (recheckFlash flashMax m).FormOk := by
  unfold Machine.recheckFlash
  split
  · split
    · exact h.spendFlash
    · exact h
  · exact h

/-- A candidate clears the confirmation record, switches the class, or stands in it with a count of at least 1. -/
theorem confirmCandidate (h : m.FormOk) (confirmN confirmWinding : Nat) (c : RoadClass) :
    (confirmCandidate confirmN confirmWinding c m).FormOk := by
  obtain ⟨hrequest, -, hambient⟩ := h
  rw [confirmCandidate_eq]
  by_cases hclass : c = m.roadClass
  · simp only [if_pos hclass]
    exact ⟨hrequest, rfl, hambient⟩
  · have hcount : 1 ≤ if m.candidate = some c then m.count + 1 else 1 := by split <;> omega
    simp only [if_neg hclass]
    generalize (if m.candidate = some c then m.count + 1 else 1) = count at hcount ⊢
    generalize (if c = .winding then confirmWinding else confirmN) = threshold
    split
    · exact ⟨hrequest, rfl, hambient⟩
    · exact ⟨hrequest, ⟨hclass, hcount⟩, hambient⟩

theorem ticked (h : m.FormOk) (limit : Nat) :
    ({ m with flash := advanceFlash limit m.flash } : ModeSelector).FormOk := by
  obtain ⟨hrequest, hrecord, hambient⟩ := h
  refine ⟨?_, hrecord, hambient⟩
  unfold RequestOk at hrequest ⊢
  cases hflash : m.flash with
  | idle => simpa only [hflash, advanceFlash] using hrequest
  | active n => simpa only [hflash, advanceFlash] using hrequest
  | spent => simpa only [hflash, advanceFlash] using hrequest

end ModeSelector.FormOk

theorem gate_recheckFlash (flashMax : Nat) (m : ModeSelector) : (recheckFlash flashMax m).gate = m.gate := by
  unfold recheckFlash
  split
  · split <;> rfl
  · rfl

theorem gate_takeDriver (r : DriverRequest) (m : ModeSelector) : (takeDriver r m).gate = m.gate := by
  unfold takeDriver
  split <;> rfl

theorem selectorInv_acceptMotion {s : State} (h : s.selector.FormOk) (r : MotionRecord) : SelectorInv (acceptMotion r s) := by
  rw [selectorInv_iff]
  refine ⟨(h.gate _).confirmCandidate _ _ _, fun hlost => ?_⟩
  simp [acceptMotion] at hlost

/-! ## Vision presence (R48, R49) -/

/-- Vision presence in order: PRESENT exactly while its timer runs, under 200 ms. -/
def VisionPresence.TimerOk (v : VisionPresence) : Prop :=
  (v.present = true ↔ v.timer.isSome = true) ∧ ∀ n ∈ v.timer, n < 200

theorem visionInv_iff (s : State) : VisionInv s ↔ s.vision.TimerOk := Iff.rfl

theorem visionTimerOk_lost : (⟨false, none⟩ : VisionPresence).TimerOk := by simp [VisionPresence.TimerOk]

theorem visionTimerOk_refreshVision (s : State) : (refreshVision s).vision.TimerOk := by
  simp [VisionPresence.TimerOk]

theorem VisionPresence.TimerOk.ticked {v : VisionPresence} (h : v.TimerOk) :
    ({ v with timer := advance Config.visionLimit v.timer } : VisionPresence).TimerOk := by
  obtain ⟨hpresent, hlt⟩ := h
  exact ⟨by simpa using hpresent, advance_lt hlt⟩

/-! ## The three together, through every change -/

theorem PresenceInv.of_eq {s u : State} (h : PresenceInv s) (hmotion : u.motion = s.motion)
    (hselector : u.selector = s.selector) (hvision : u.vision = s.vision) : PresenceInv u := by
  simpa only [PresenceInv, MotionInv, SelectorInv, VisionInv, hmotion, hselector, hvision] using h

theorem PresenceInv.raiseFault (f : FaultReport) {u : State} (h : PresenceInv u) : PresenceInv (raiseFault f u) :=
  h.of_eq (by simp) (by simp) (by simp)

theorem PresenceInv.raiseNotice (k : NoticeKind) {u : State} (h : PresenceInv u) : PresenceInv (raiseNotice k u) :=
  h.of_eq (by simp) (by simp) (by simp)

/-- With the motion unit and the selector kept, vision presence is all there is to show. -/
theorem PresenceInv.withVision {s u : State} (h : PresenceInv s) (hmotion : u.motion = s.motion)
    (hselector : u.selector = s.selector) (hvision : u.vision.TimerOk) : PresenceInv u := by
  obtain ⟨hm, hs, -⟩ := h
  simp only [PresenceInv, MotionInv, SelectorInv, hmotion, hselector]
  exact ⟨hm, hs, hvision⟩

theorem TracksChange.vision {s u : State} (h : TracksChange s u) : u.vision = s.vision ∨ u.vision = (refreshVision s).vision := by
  cases h <;> simp

theorem TracksChange.presenceInv {s u : State} (h : TracksChange s u) (hs : PresenceInv s) : PresenceInv u := by
  refine hs.withVision (by simp [h.frame]) (by simp [h.frame]) ?_
  rcases h.vision with hv | hv <;> rw [hv]
  · exact hs.2.2
  · exact visionTimerOk_refreshVision s

theorem DrivingChange.presenceInv {s u : State} (h : DrivingChange s u) (hs : PresenceInv s) : PresenceInv u := by
  obtain ⟨hmotion, hselector, hvision⟩ := hs
  rw [motionInv_iff] at hmotion
  obtain ⟨hform, hgate⟩ := (selectorInv_iff s).mp hselector
  cases h with
  | lane data => exact ⟨hmotion.lane data, hselector, visionTimerOk_refreshVision s⟩
  | scene data =>
    exact ⟨hmotion, (selectorInv_iff _).mpr ⟨hform.scene data, hgate⟩, visionTimerOk_refreshVision s⟩
  | repeated =>
    refine ⟨motionUnitOk_repeatMotion hmotion, (selectorInv_iff _).mpr ⟨?_, ?_⟩, ?_⟩
    · simpa using hform
    · unfold repeatMotion
      dsimp only
      split <;> simpa using hgate
    · simpa [VisionInv] using hvision
  | accepted data => exact ⟨hmotion.accepted data, selectorInv_acceptMotion hform _, hvision⟩
  | stale hfresh =>
    exact ⟨hmotion.stale hfresh, (selectorInv_iff _).mpr ⟨hform, fun hlost => by cases hlost⟩, hvision⟩
  | lost =>
    exact PresenceInv.raiseFault _ ⟨hmotion.lost, (selectorInv_iff _).mpr ⟨hform.gate .closed, fun _ => rfl⟩, hvision⟩
  | driver r =>
    exact ⟨hmotion, (selectorInv_iff _).mpr ⟨hform.takeDriver r, (gate_takeDriver r _).symm ▸ hgate⟩, hvision⟩
  | flashSpent => exact ⟨hmotion, (selectorInv_iff _).mpr ⟨hform.spendFlash, hgate⟩, hvision⟩
  | visionLost =>
    exact PresenceInv.raiseFault _
      ⟨hmotion, (selectorInv_iff _).mpr ⟨hform.clearSceneFlags, hgate⟩, visionTimerOk_lost⟩

theorem presenceInv_writeParam {s : State} (h : PresenceInv s) (p : Param) (v : Int) : PresenceInv (writeParam p v s) := by
  obtain ⟨hmotion, hselector, hvision⟩ := h
  obtain ⟨hform, hgate⟩ := (selectorInv_iff s).mp hselector
  have hafter (value : Int) :
      (selectorAfterPut p value s.selector).FormOk ∧
        (s.motion.presence = .lost → (selectorAfterPut p value s.selector).gate = .closed) := by
    unfold selectorAfterPut
    split
    · exact ⟨hform.recheckFlash _, (gate_recheckFlash _ _).symm ▸ hgate⟩
    · exact ⟨hform, hgate⟩
  have hwritten (value : Int) :
      PresenceInv { s with working := s.working.put p value, selector := selectorAfterPut p value s.selector } :=
    ⟨hmotion, (selectorInv_iff _).mpr (hafter value), hvision⟩
  rw [writeParam_eq]
  dsimp only
  split
  · exact hwritten _
  · exact (hwritten _).raiseNotice _

/-- Every block of the three at its reset values. -/
theorem presenceInv_reset {u : State} (hmotion : u.motion = resetMotion) (hselector : u.selector = resetSelector)
    (hvision : u.vision = resetVision) : PresenceInv u := by
  refine ⟨?_, (selectorInv_iff u).mpr ⟨?_, fun _ => ?_⟩, ?_⟩
  · exact (motionInv_iff u).mpr (hmotion ▸ motionUnitOk_reset)
  · exact hselector ▸ formOk_reset
  · rw [hselector]
    rfl
  · exact (visionInv_iff u).mpr (hvision ▸ visionTimerOk_lost)

theorem OperatingChange.presenceInv {c : Instr} {s u : State} (h : OperatingChange s c u) (hs : PresenceInv s) : PresenceInv u := by
  cases h with
  | written _ p v _ => exact presenceInv_writeParam hs p v
  | ran data => exact hs.of_eq (by simp) (by simp) (by simp)
  | configured data => exact hs.of_eq (by simp) (by simp) (by simp)
  | restarted data => exact presenceInv_reset (by simp [resetBlocks]) (by simp [resetBlocks]) (by simp [resetBlocks])
  | restartedAnew data => exact presenceInv_reset (by simp [resetBlocks]) (by simp [resetBlocks]) (by simp [resetBlocks])

theorem Change.presenceInv {c : Instr} {s u : State} (h : Change c s u) (hs : PresenceInv s) : PresenceInv u := by
  cases h with
  | unchanged => exact hs
  | fault f => exact hs.raiseFault f
  | tracks h => exact h.presenceInv hs
  | driving h => exact h.presenceInv hs
  | cache h => exact hs.of_eq (by simp [h.frame]) (by simp [h.frame]) (by simp [h.frame])
  | build h => exact hs.of_eq (by simp [h.frame]) (by simp [h.frame]) (by simp [h.frame])
  | link x h => exact hs.of_eq (by simp [h.frame]) (by simp [h.frame]) (by simp [h.frame])
  | diag h => exact hs.of_eq (by simp [h.frame]) (by simp [h.frame]) (by simp [h.frame])
  | operating h => exact h.presenceInv hs
  | port h => exact hs.of_eq (by simp [h.frame]) (by simp [h.frame]) (by simp [h.frame])

theorem presenceInv_tick {s : State} (h : PresenceInv s) : PresenceInv (tick s) := by
  obtain ⟨hmotion, hselector, hvision⟩ := h
  obtain ⟨hform, hgate⟩ := (selectorInv_iff s).mp hselector
  exact ⟨((motionInv_iff s).mp hmotion).ticked, (selectorInv_iff _).mpr ⟨hform.ticked _, hgate⟩,
    ((visionInv_iff s).mp hvision).ticked⟩

/-! ## The thresholds of the timers (R28, R49) -/

theorem gives_presenceStale {s : State} {n : Nat} (htimer : s.motion.timer = some n) (hfresh : s.motion.presence = .fresh) :
    Gives .presenceStale s { s with motion := { s.motion with presence := .stale, timer := some 100 } } := by
  show execPresenceStale s = _
  simp only [execPresenceStale, hfresh, htimer]
  rfl

theorem gives_presenceLost {s : State} {n : Nat} (htimer : s.motion.timer = some n) :
    Gives .presenceLost s
      (raiseFault (plainFault .motionLost)
        { s with
          motion := { s.motion with presence := .lost, timer := none }
          selector := { s.selector with gate := .closed } }) := by
  show execPresenceLost s = _
  simp only [execPresenceLost, htimer]
  rfl

theorem gives_visionLoss {s : State} {n : Nat} (htimer : s.vision.timer = some n) :
    Gives .visionLoss s
      (raiseFault (plainFault .visionLost)
        { s with
          vision := { present := false, timer := none }
          tracks := []
          selector := { s.selector with scene := clearSceneFlags s.selector.scene } }) := by
  show execVisionLoss s = _
  simp only [execVisionLoss, htimer]
  rfl

/-! ## The selection (R56, R57) -/

theorem daylight_iff (dayLux : Nat) (scene : SceneRecord) : daylight dayLux scene = true ↔ ∃ lux ∈ scene.ambient, dayLux ≤ lux := by
  simp only [daylight, Option.any_eq_true, decide_eq_true_eq, Option.mem_def]

/-- The selection under AUTO. -/
theorem selection_auto {s : State} (h : s.selector.request = .steady .auto) :
    selection s =
      let auto := autoSelection ((activeCal s).nat .dayLux) (s.motion.presence == .lost) (!s.vision.present) s.selector
      { mode := auto.1, reason := auto.2, flash := false } := by
  simp only [selection, h]

/-- Under AUTO, with none of the four conditions, the weather or else the road class gives the mode. -/
theorem autoSelection_open {dayLux : Nat} {m : ModeSelector} (hgate : m.gate = .opened) (hday : ¬daylight dayLux m.scene = true) :
    autoSelection dayLux false false m =
      if m.scene.fog || m.scene.rain then (.weather, .noFallback) else (m.roadClass.mode, .noFallback) := by
  simp [autoSelection, hgate, hday]

/-- A shading mode is selected only under AUTO with none of the four conditions. -/
theorem autoSelection_shading {dayLux : Nat} {motionLost visionLost : Bool} {m : ModeSelector}
    (h : (autoSelection dayLux motionLost visionLost m).1.shading = true) :
    motionLost = false ∧ visionLost = false ∧ m.gate = .opened ∧ ¬daylight dayLux m.scene = true := by
  unfold autoSelection at h
  split at h
  · cases h
  next hmotion =>
    split at h
    · cases h
    next hvision =>
      split at h
      · cases h
      next hgate =>
        split at h
        · cases h
        next hday =>
          refine ⟨Bool.eq_false_iff.mpr hmotion, Bool.eq_false_iff.mpr hvision, ?_, hday⟩
          cases hg : m.gate with
          | opened => rfl
          | closed => exact absurd hg hgate

theorem selection_shading {s : State} (h : (selection s).mode.shading = true) :
    s.selector.request = .steady .auto ∧ s.motion.presence ≠ .lost ∧ s.vision.present = true ∧
      s.selector.gate = .opened ∧ ∀ lux ∈ s.selector.scene.ambient, lux < (activeCal s).nat .dayLux := by
  cases hrequest : s.selector.request with
  | flash =>
    simp only [selection, hrequest] at h
    cases h
  | steady q =>
    cases q with
    | off =>
      simp only [selection, hrequest] at h
      cases h
    | low =>
      simp only [selection, hrequest] at h
      cases h
    | high =>
      simp only [selection, hrequest] at h
      cases h
    | auto =>
      rw [selection_auto hrequest] at h
      obtain ⟨hmotion, hvision, hgate, hday⟩ := autoSelection_shading h
      refine ⟨rfl, ?_, by simpa using hvision, hgate, fun lux hlux => ?_⟩
      · simpa using hmotion
      · exact Nat.lt_of_not_le fun hle => hday ((daylight_iff _ _).mpr ⟨lux, hlux, hle⟩)

end Sys2Proof.Machine

namespace Sys2Proof.Proofs

open Sys2Proof.Machine

/-- Settles O53: each change of the three blocks keeps its own block in order, and the others leave them alone. -/
theorem presenceAndSelectorKeptByEveryStep : Obligations.PresenceAndSelectorKeptByEveryStep := by
  refine keptByStep_of (fun s rest h => h) (fun s h => presenceInv_tick h) (fun s => ?_) fun c s u h hu => ?_
  · exact presenceInv_reset rfl rfl rfl
  · exact (hu.presenceInv h).of_eq rfl rfl rfl

/-- Settles O19: each threshold's command, with the timer running. -/
theorem presenceTimerThresholds : Obligations.PresenceTimerThresholds :=
  fun _ _ htimer => ⟨fun hfresh => gives_presenceStale htimer hfresh, gives_presenceLost htimer⟩

/-- Settles O21: VISION_LOSS with the timer running. -/
theorem visionLossEmptiesTheTrackTable : Obligations.VisionLossEmptiesTheTrackTable :=
  fun _ _ htimer => gives_visionLoss htimer

/-- Settles O22: the request first, and under AUTO the conditions in their order. -/
theorem selectionFollowsDriverThenConditions : Obligations.SelectionFollowsDriverThenConditions := by
  intro s
  refine ⟨fun h => ?_, fun h => ?_, fun h => ?_, fun h => ?_, fun h => ?auto, selection_shading⟩
  case auto =>
    rw [selection_auto h]
    refine ⟨fun hlost => ?_, fun hmotion hvision => ?_, fun hmotion hvision hgate => ?_,
      fun hmotion hvision hgate hday => ?_, fun hmotion hvision hgate hday => ?opened⟩
    case opened =>
      rw [← daylight_iff] at hday
      simp only [beq_false_of_ne hmotion, hvision, Bool.not_true, autoSelection_open hgate hday]
      refine ⟨fun hweather => ?_, fun hfog hrain => ?_⟩
      · rcases hweather with hw | hw <;> simp [hw]
      · simp only [hfog, hrain, Bool.or_self, Bool.false_eq_true, if_false]
        cases s.selector.roadClass <;> rfl
    · simp [autoSelection, hlost]
    · simp [autoSelection, beq_false_of_ne hmotion, hvision]
    · simp [autoSelection, beq_false_of_ne hmotion, hvision, hgate]
    · rw [← daylight_iff] at hday
      simp [autoSelection, beq_false_of_ne hmotion, hvision, hgate, hday]
  all_goals simp only [selection, h]

end Sys2Proof.Proofs
end

section
/-! SUPPORT. The calibration and the times it bounds through every step (Chapter 10; R2, R84, R179, R180): the limits, what keeps
within them, and then the proof of the statement. -/

namespace Sys2Proof.Machine

/-! ## Parameter sets in range -/

theorem CalSet.InRange.put {c : CalSet} (h : c.InRange) (p : Param) (v : Int) : (c.put p (p.clampValue v)).InRange := by
  intro q _
  rw [CalSet.get_put]
  split
  next hq =>
    have hordered : q.range.1 ≤ q.range.2 := (h.get q).1.trans (h.get q).2
    rw [← hq, Param.clampValue, clamp_eq _ hordered]
    omega
  next => exact h.get q

theorem CalSet.InRange.buildPeriod_pos {c : CalSet} (h : c.InRange) : 0 < c.nat .buildPeriod := by
  have hlow : (10 : Int) ≤ c.get .buildPeriod := (h.get .buildPeriod).1
  unfold CalSet.nat
  omega

theorem CalSet.InRange.trackExpiry_pos {c : CalSet} (h : c.InRange) : 0 < c.nat .trackExpiry := by
  have hlow : (60 : Int) ≤ c.get .trackExpiry := (h.get .trackExpiry).1
  unfold CalSet.nat
  omega

theorem CalSet.InRange.flashMax_pos {c : CalSet} (h : c.InRange) : 0 < c.nat .flashMax := by
  have hlow : (200 : Int) ≤ c.get .flashMax := (h.get .flashMax).1
  unfold CalSet.nat
  omega

theorem inRange_defaultCal : defaultCal.InRange := by
  intro p _
  rw [get_defaultCal]
  cases p <;> decide

theorem activeCal_config {s : State} (h : s.operating = .config) : activeCal s = s.working := by
  simp only [activeCal, h]

theorem activeCal_run {s : State} (h : s.operating = .run) : activeCal s = committedCal s := by
  simp only [activeCal, h]

theorem committedCal_some {s : State} {c : CalSet} (h : s.committed = some c) : committedCal s = c := by
  simp only [committedCal, h, Option.getD_some]

theorem CalibrationInv.committedCal {s : State} (h : CalibrationInv s) : (committedCal s).InRange := by
  obtain ⟨hworking, hcommitted, -⟩ := h
  cases hc : s.committed with
  | none =>
    rw [Machine.committedCal, hc]
    exact hworking
  | some c => exact committedCal_some hc ▸ (hcommitted c hc).1

theorem CalibrationInv.activeCal {s : State} (h : CalibrationInv s) : (activeCal s).InRange := by
  cases hop : s.operating with
  | run => exact activeCal_run hop ▸ h.committedCal
  | config => exact activeCal_config hop ▸ h.1

/-! ## Entries within their times -/

/-- Every entry is within its times. -/
def TracksTimely (expiry hold : Nat) (tracks : List TrackEntry) : Prop := ∀ e ∈ tracks, e.TimesOk expiry hold

theorem mem_of_admitTrack {e x : TrackEntry} {tracks tracks' : List TrackEntry} (h : admitTrack e tracks = some tracks')
    (hx : x ∈ tracks') : x = e ∨ x ∈ tracks := by
  unfold admitTrack at h
  split at h
  · cases h
    obtain ⟨old, hold, rfl⟩ := List.mem_map.mp hx
    split
    · exact .inl rfl
    · exact .inr hold
  · split at h
    · cases h
      exact (List.mem_append.mp hx).symm.imp List.mem_singleton.mp id
    · split at h
      · cases h
      · split at h <;> cases h
        exact (List.mem_append.mp hx).symm.imp List.mem_singleton.mp List.mem_of_mem_filter

section TracksTimely

variable {expiry hold : Nat} {tracks : List TrackEntry}

theorem TracksTimely.nil : TracksTimely expiry hold [] := by simp [TracksTimely]

theorem TracksTimely.removeTrack (h : TracksTimely expiry hold tracks) (id : Nat) :
    TracksTimely expiry hold (removeTrack id tracks) :=
  fun e he => h e (List.mem_of_mem_filter he)

theorem TracksTimely.endTrack (h : TracksTimely expiry hold tracks) (id : Nat) :
    TracksTimely expiry hold (endTrack id hold tracks) := by
  unfold Machine.endTrack
  split
  · exact h
  · split
    · exact h
    · split
      · exact h.removeTrack id
      · intro e he
        obtain ⟨old, hold', rfl⟩ := List.mem_map.mp he
        split
        · exact ⟨(h old hold').1, Nat.le_refl _⟩
        · exact h old hold'

/-- A record's entry is LIVE with age 0. -/
theorem timely_takeRecord {i : Nat} {r : TrackRecord} {s : State} (hpos : 0 < expiry)
    (h : TracksTimely expiry hold s.tracks) : TracksTimely expiry hold (takeRecord i r s).tracks := by
  unfold takeRecord
  split
  · simpa using h
  · split
    next tracks hadmit =>
      intro e he
      rcases mem_of_admitTrack hadmit he with rfl | he
      · exact ⟨hpos, trivial⟩
      · exact h e he
    · simpa using h

theorem timely_takeRecords {records : List (Nat × TrackRecord)} {s : State} (hpos : 0 < expiry)
    (h : TracksTimely expiry hold s.tracks) : TracksTimely expiry hold (takeRecords records s).tracks := by
  induction records generalizing s with
  | nil => exact h
  | cons r rest ih => exact ih (timely_takeRecord hpos h)

theorem TracksTimely.age (h : TracksTimely expiry hold tracks) :
    TracksTimely expiry hold (tracks.map (ageTrack expiry)) := by
  intro e he
  obtain ⟨old, hold', rfl⟩ := List.mem_map.mp he
  obtain ⟨hage, hlife⟩ := h old hold'
  refine ⟨?_, ?_⟩
  · simp only [ageTrack]
    split <;> omega
  · unfold ageTrack
    cases hl : old.life with
    | live => trivial
    | releasing remaining =>
      rw [hl] at hlife
      dsimp only at hlife ⊢
      split <;> omega

end TracksTimely

/-! ## The flash within its time (R42, R45) -/

theorem FlashState.TimeOk.advance {limit : Nat} {f : FlashState} (h : f.TimeOk limit) : (advanceFlash limit f).TimeOk limit := by
  cases f with
  | idle => trivial
  | spent => trivial
  | active n =>
    unfold FlashState.TimeOk at h
    simp only [advanceFlash, FlashState.TimeOk]
    split <;> omega

theorem timeOk_takeDriver {limit : Nat} {m : ModeSelector} (hpos : 0 < limit) (h : m.flash.TimeOk limit) (r : DriverRequest) :
    (takeDriver r m).flash.TimeOk limit := by
  cases r with
  | steady q => trivial
  | flash =>
    cases hflash : m.flash with
    | idle =>
      rw [takeDriver_flash_idle hflash]
      exact hpos
    | active n =>
      rw [takeDriver_flash_active hflash]
      exact h
    | spent =>
      rw [takeDriver_flash_spent hflash]
      exact h

/-- A flash that has run for the new flash_max is spent at once. -/
theorem timeOk_recheckFlash (limit : Nat) (m : ModeSelector) : (recheckFlash limit m).flash.TimeOk limit := by
  cases hflash : m.flash with
  | active n =>
    unfold recheckFlash
    simp only [hflash]
    split
    · trivial
    next hlt =>
      rw [hflash]
      exact Nat.lt_of_not_le hlt
  | idle =>
    rw [recheckFlash_inactive limit (by simp [hflash]), hflash]
    trivial
  | spent =>
    rw [recheckFlash_inactive limit (by simp [hflash]), hflash]
    trivial

theorem confirmCandidate_flash (confirmN confirmWinding : Nat) (c : RoadClass) (m : ModeSelector) :
    (confirmCandidate confirmN confirmWinding c m).flash = m.flash := by
  have hswitch (v : ModeSelector) : (switchClass confirmN confirmWinding v).flash = v.flash := by
    unfold switchClass
    split
    · rfl
    · split <;> rfl
  unfold confirmCandidate noteCandidate
  rw [hswitch]
  split
  · rfl
  · split <;> rfl

/-! ## Through every change -/

/-- The two invariants together. -/
def SetsInv (s : State) : Prop := CalibrationInv s ∧ TimesInv s

section SetsInv

variable {s u : State}

/-- With the sets and the operating state kept, the times are all there is to show. -/
theorem SetsInv.withTimes (h : SetsInv s) (hop : u.operating = s.operating) (hworking : u.working = s.working)
    (hcommitted : u.committed = s.committed)
    (hconfig : s.operating = .config → u.tracks = [] ∧ u.builder.timer = none ∧ u.builder.phase.build = none)
    (hrun : s.operating = .run → ∃ n ∈ u.builder.timer, n < (committedCal s).nat .buildPeriod)
    (htracks : TracksTimely ((activeCal s).nat .trackExpiry) ((activeCal s).nat .releaseHold) u.tracks)
    (hflash : u.selector.flash.TimeOk ((activeCal s).nat .flashMax)) : SetsInv u := by
  have hcc : committedCal u = committedCal s := by simp only [committedCal, hcommitted, hworking]
  have hactive : activeCal u = activeCal s := by simp only [activeCal, hop, hcc, hworking]
  refine ⟨?_, ?_⟩
  · simpa only [CalibrationInv, hop, hworking, hcommitted] using h.1
  · simp only [TimesInv, hop, hcc, hactive]
    exact ⟨hconfig, hrun, htracks, hflash⟩

theorem SetsInv.of_eq (h : SetsInv s) (hop : u.operating = s.operating) (hworking : u.working = s.working)
    (hcommitted : u.committed = s.committed) (htracks : u.tracks = s.tracks) (hselector : u.selector = s.selector)
    (hbuilder : u.builder = s.builder) : SetsInv u := by
  obtain ⟨hconfig, hrun, htimely, hflash⟩ := h.2
  exact h.withTimes hop hworking hcommitted (by rwa [htracks, hbuilder]) (by rwa [hbuilder]) (by rwa [htracks])
    (by rwa [hselector])

theorem SetsInv.raiseNotice (k : NoticeKind) (h : SetsInv s) : SetsInv (raiseNotice k s) :=
  h.of_eq (by simp) (by simp) (by simp) (by simp) (by simp) (by simp)

theorem SetsInv.reportChange (h : SetsInv s) : SetsInv (reportChange s) :=
  h.of_eq (by simp) (by simp) (by simp) (by simp) (by simp) (by simp)

/-- In CONFIG the table is empty and stays so; in RUN its entries are within their times. -/
theorem TracksChange.setsInv (h : TracksChange s u) (hs : SetsInv s) : SetsInv u := by
  obtain ⟨hcal, hconfig, hrun, htimely, hflash⟩ := id hs
  change TracksTimely _ _ s.tracks at htimely
  refine hs.withTimes (by simp [h.frame]) (by simp [h.frame]) (by simp [h.frame]) (fun hop => ?_) (by simpa [h.frame] using hrun)
    ?_ (by simpa [h.frame] using hflash)
  · obtain ⟨hnil, htimer, hbuild⟩ := hconfig hop
    refine ⟨?_, by simpa [h.frame] using htimer, by simpa [h.frame] using hbuild⟩
    cases h with
    | refreshed => exact hnil
    | refused f => simpa using hnil
    | taken data hop' => cases hop.symm.trans hop'
    | ended id hop' => cases hop.symm.trans hop'
    | removed id => simp [hnil, removeTrack]
  · cases h with
    | refreshed => exact htimely
    | refused f => simpa using htimely
    | taken data => exact timely_takeRecords hcal.activeCal.trackExpiry_pos htimely
    | ended id => exact TracksTimely.endTrack htimely id
    | removed id => exact TracksTimely.removeTrack htimely id

theorem DrivingChange.flash {limit : Nat} (h : DrivingChange s u) (hpos : 0 < limit) (hs : s.selector.flash.TimeOk limit) :
    u.selector.flash.TimeOk limit := by
  cases h with
  | driver r => exact timeOk_takeDriver hpos hs r
  | flashSpent => trivial
  | accepted data =>
    rw [acceptMotion, judgeMotion, confirmCandidate_flash]
    exact hs
  | repeated => simpa using hs
  | lost => simpa using hs
  | visionLost => simpa using hs
  | lane | scene | stale => exact hs

theorem DrivingChange.setsInv (h : DrivingChange s u) (hs : SetsInv s) : SetsInv u := by
  obtain ⟨hcal, hconfig, hrun, htimely, hflash⟩ := id hs
  change TracksTimely _ _ s.tracks at htimely
  refine hs.withTimes (by simp [h.frame]) (by simp [h.frame]) (by simp [h.frame]) (fun hop => ?_) (by simpa [h.frame] using hrun)
    ?_ (h.flash hcal.activeCal.flashMax_pos hflash)
  · obtain ⟨hnil, hbuilder⟩ := hconfig hop
    refine ⟨?_, by simpa [h.frame] using hbuilder⟩
    rcases h.tracks with ht | ht
    · exact ht.trans hnil
    · exact ht
  · rcases h.tracks with ht | ht <;> rw [ht]
    · exact htimely
    · exact .nil

/-- The builder's commands act in RUN alone: in CONFIG there is no build timer and no build. -/
theorem BuildChange.timer_or_build (h : BuildChange s u) : s.builder.timer ≠ none ∨ s.builder.phase.build ≠ none := by
  cases h with
  | overrun b ht => exact .inl (Option.isSome_iff_ne_none.mp ht)
  | started slot ht => exact .inl (Option.isSome_iff_ne_none.mp ht)
  | computed b hphase => exact .inr (by simp [hphase, BuilderPhase.build])
  | blockWritten b f n w lamp k hphase => exact .inr (by simp [hphase, BuilderPhase.build])
  | committed b f n w hphase => exact .inr (by simp [hphase, BuilderPhase.build])

/-- A lookup changes the builder's working copy alone. -/
theorem lookup_builder (d sequence : Nat) (s : State) :
    ∃ copy, (lookup d sequence s).1.builder = { s.builder with workingCopy := copy } := by
  unfold lookup
  split
  · exact ⟨s.builder.workingCopy, by simp⟩
  · split
    · exact ⟨_, rfl⟩
    · exact ⟨s.builder.workingCopy, by simp⟩

theorem lookupFor_builder (mode : BeamMode) (sequence : Nat) (s : State) :
    ∃ copy, (lookupFor mode sequence s).1.builder = { s.builder with workingCopy := copy } := by
  unfold lookupFor
  split
  · exact ⟨s.builder.workingCopy, rfl⟩
  · exact lookup_builder _ sequence s

/-- A build's start changes the builder's phase and its working copy. -/
theorem startBuild_builder (slot : Fin 6) (s : State) :
    ∃ snapshot copy, (startBuild slot s).builder =
      { s.builder with
        phase := .computing ⟨nextSequence s.builder.mirror.sequence, slot, snapshot⟩, workingCopy := copy } ∧
      snapshot.previous = s.builder.mirror := by
  obtain ⟨copy, hcopy⟩ := lookupFor_builder (selection { s with store := s.store.claim slot }).mode
    (nextSequence s.builder.mirror.sequence) { s with store := s.store.claim slot }
  exact ⟨_, copy, by rw [startBuild, hcopy], rfl⟩

theorem startBuild_timer (slot : Fin 6) (s : State) : (startBuild slot s).builder.timer = s.builder.timer := by
  obtain ⟨snapshot, copy, h, -⟩ := startBuild_builder slot s
  rw [h]

theorem BuildChange.timer (h : BuildChange s u) : u.builder.timer = s.builder.timer ∨ u.builder.timer = some 0 := by
  cases h with
  | overrun b => exact .inr (by simp [restartTimer])
  | started slot => exact .inr (by rw [startBuild_timer, restartTimer])
  | computed b => exact .inl (by simp [afterCompute_builder])
  | blockWritten b f n w lamp k => exact .inl (by simp [afterBlockWrite])
  | committed b f n w => exact .inl (by simp [afterCommit, commitStatus])

theorem BuildChange.setsInv (h : BuildChange s u) (hs : SetsInv s) : SetsInv u := by
  obtain ⟨hcal, hconfig, hrun, htimely, hflash⟩ := id hs
  change TracksTimely _ _ s.tracks at htimely
  refine hs.withTimes (by simp [h.frame]) (by simp [h.frame]) (by simp [h.frame]) (fun hop => ?_) (fun hop => ?_)
    (by simpa [h.frame] using htimely) (by simpa [h.frame] using hflash)
  · obtain ⟨-, htimer, hbuild⟩ := hconfig hop
    rcases h.timer_or_build with hne | hne
    · exact absurd htimer hne
    · exact absurd hbuild hne
  · rcases h.timer with ht | ht <;> rw [ht]
    · exact hrun hop
    · exact ⟨0, rfl, hcal.committedCal.buildPeriod_pos⟩

theorem setsInv_writeParam (hs : SetsInv s) (hop : s.operating = .config) (p : Param) (v : Int) : SetsInv (writeParam p v s) := by
  obtain ⟨⟨hworking, hcommitted, hsome⟩, hconfig, -, -, hflash⟩ := hs
  obtain ⟨hnil, htimer, hbuild⟩ := hconfig hop
  have hafter : (selectorAfterPut p (p.clampValue v) s.selector).flash.TimeOk ((s.working.put p (p.clampValue v)).nat .flashMax) := by
    unfold selectorAfterPut CalSet.nat
    rw [CalSet.get_put]
    split
    next hp =>
      rw [if_pos hp.symm]
      exact timeOk_recheckFlash _ _
    next hp =>
      rw [if_neg (Ne.symm hp)]
      exact activeCal_config hop ▸ hflash
  have hwritten : SetsInv { s with
      working := s.working.put p (p.clampValue v), selector := selectorAfterPut p (p.clampValue v) s.selector } := by
    refine ⟨⟨hworking.put p v, hcommitted, hsome⟩, fun _ => ⟨hnil, htimer, hbuild⟩, fun hrun => ?_, ?_, ?_⟩
    · cases hop.symm.trans hrun
    · exact hnil ▸ TracksTimely.nil
    · exact activeCal_config (s := { s with
        working := s.working.put p (p.clampValue v), selector := selectorAfterPut p (p.clampValue v) s.selector }) hop ▸ hafter
  rw [writeParam_eq]
  dsimp only
  split
  · exact hwritten
  · exact hwritten.raiseNotice _

theorem setsInv_enterRun (hs : SetsInv s) (hop : s.operating = .config) (hcheck : crossCheck s.working = none) :
    SetsInv (enterRun s) := by
  obtain ⟨⟨hworking, -, -⟩, hconfig, -, -, hflash⟩ := hs
  obtain ⟨hnil, -, -⟩ := hconfig hop
  refine ⟨⟨hworking, ?_, fun _ => rfl⟩, fun hrun => (by cases hrun), fun _ => ⟨0, rfl, hworking.buildPeriod_pos⟩, ?_, ?_⟩
  · rintro _ ⟨⟩
    exact ⟨hworking, hcheck⟩
  · exact hnil ▸ TracksTimely.nil
  · rw [activeCal_config hop] at hflash
    exact hflash

theorem enterConfig_blocks (s : State) :
    (enterConfig s).working = committedCal s ∧ (enterConfig s).tracks = [] ∧ (enterConfig s).builder.timer = none ∧
      (enterConfig s).builder.phase.build = none := by
  simp [enterConfig, BuilderPhase.build]

theorem setsInv_enterConfig (hs : SetsInv s) (hop : s.operating = .run) : SetsInv (enterConfig s) := by
  obtain ⟨hcal, -, -, -, hflash⟩ := hs
  obtain ⟨hworking, hnil, htimer, hbuild⟩ := enterConfig_blocks s
  have hconfig := enterConfig_operating s
  refine ⟨⟨?_, ?_, fun hrun => ?_⟩, fun _ => ⟨hnil, htimer, hbuild⟩, fun hrun => ?_, ?_, ?_⟩
  · exact hworking ▸ hcal.committedCal
  · simpa using hcal.2.1
  · cases hconfig.symm.trans hrun
  · cases hconfig.symm.trans hrun
  · exact hnil ▸ TracksTimely.nil
  · rw [activeCal_config hconfig, hworking, ← activeCal_run hop]
    simpa using hflash

theorem resetBlocks_blocks (s : State) :
    (resetBlocks s).operating = stateAfterRestart s ∧ (resetBlocks s).working = s.committed.getD defaultCal ∧
      (resetBlocks s).tracks = [] ∧ (resetBlocks s).selector = resetSelector ∧
      (resetBlocks s).builder.timer = (if s.committed.isSome then some 0 else none) ∧
      (resetBlocks s).builder.phase.build = none := by
  simp [resetBlocks, BuilderPhase.build]

theorem setsInv_resetBlocks (hs : SetsInv s) : SetsInv (resetBlocks s) := by
  obtain ⟨⟨-, hcommitted, -⟩, -⟩ := hs
  obtain ⟨hop, hworking, hnil, hselector, htimer, hbuild⟩ := resetBlocks_blocks s
  have hkept : (resetBlocks s).committed = s.committed := by simp
  have hflash (limit : Nat) : (resetBlocks s).selector.flash.TimeOk limit := hselector ▸ trivial
  unfold stateAfterRestart at hop
  cases hc : s.committed with
  | none =>
    simp only [hc, Option.isSome_none, Bool.false_eq_true, if_false, Option.getD_none] at hop hworking htimer hkept
    refine ⟨⟨hworking ▸ inRange_defaultCal, by rw [hkept]; rintro _ ⟨⟩, fun hrun => ?_⟩,
      fun _ => ⟨hnil, htimer, hbuild⟩, fun hrun => ?_, hnil ▸ TracksTimely.nil, hflash _⟩
    · cases hop.symm.trans hrun
    · cases hop.symm.trans hrun
  | some c =>
    simp only [hc, Option.isSome_some, if_true, Option.getD_some] at hop hworking htimer hkept
    obtain ⟨hrange, hcheck⟩ := hcommitted c hc
    refine ⟨⟨hworking ▸ hrange, ?_, fun _ => by rw [hkept]; rfl⟩, fun hconfig => ?_, fun _ => ?_, hnil ▸ TracksTimely.nil, hflash _⟩
    · intro d hd
      cases hkept.symm.trans hd
      exact ⟨hrange, hcheck⟩
    · cases hop.symm.trans hconfig
    · exact ⟨0, htimer, committedCal_some hkept ▸ hrange.buildPeriod_pos⟩

theorem OperatingChange.setsInv {c : Instr} (h : OperatingChange s c u) (hs : SetsInv s) : SetsInv u := by
  cases h with
  | written _ p v hconfig => exact setsInv_writeParam hs hconfig p v
  | ran data hconfig hcheck => exact (setsInv_enterRun hs hconfig hcheck).reportChange
  | configured data haccepted => exact (setsInv_enterConfig hs ((configAccepted_iff s).mp haccepted).1).reportChange
  | restarted data => exact setsInv_resetBlocks hs
  | restartedAnew data => exact (setsInv_resetBlocks hs).reportChange

theorem Change.setsInv {c : Instr} (h : Change c s u) (hs : SetsInv s) : SetsInv u := by
  cases h with
  | unchanged => exact hs
  | fault f => exact hs.of_eq (by simp) (by simp) (by simp) (by simp) (by simp) (by simp)
  | tracks h => exact h.setsInv hs
  | driving h => exact h.setsInv hs
  | build h => exact h.setsInv hs
  | operating h => exact h.setsInv hs
  | cache h =>
    obtain ⟨-, hop, hworking, hcommitted, htracks, -, hselector, -, hbuilder, -⟩ := h.frame
    exact hs.of_eq hop hworking hcommitted htracks hselector hbuilder
  | link x h =>
    obtain ⟨-, hop, hworking, hcommitted, htracks, -, hselector, -, -, hbuilder, -⟩ := h.frame
    exact hs.of_eq hop hworking hcommitted htracks hselector hbuilder
  | diag h =>
    obtain ⟨-, hop, hworking, hcommitted, htracks, -, hselector, -, -, hbuilder, -⟩ := h.frame
    exact hs.of_eq hop hworking hcommitted htracks hselector hbuilder
  | port h =>
    obtain ⟨-, hop, hworking, hcommitted, htracks, -, hselector, -, -, hbuilder, -⟩ := h.frame
    exact hs.of_eq hop hworking hcommitted htracks hselector hbuilder

theorem timely_ageTracks (h : TracksTimely ((activeCal s).nat .trackExpiry) ((activeCal s).nat .releaseHold) s.tracks) :
    TracksTimely ((activeCal s).nat .trackExpiry) ((activeCal s).nat .releaseHold) (ageTracks s) := by
  unfold ageTracks
  split
  · exact h
  · exact h.age

theorem setsInv_tick (hs : SetsInv s) : SetsInv (tick s) := by
  obtain ⟨hcal, hconfig, hrun, htimely, hflash⟩ := id hs
  change TracksTimely _ _ s.tracks at htimely
  refine hs.withTimes rfl rfl rfl (fun hop => ?_) (fun hop => ?_) (timely_ageTracks htimely) hflash.advance
  · obtain ⟨hnil, htimer, hbuild⟩ := hconfig hop
    refine ⟨?_, ?_, hbuild⟩
    · simp [ageTracks, hop, hnil]
    · simp [htimer, advance]
  · obtain ⟨n, hn, hlt⟩ := hrun hop
    obtain ⟨m, hm, -, hmlt⟩ := exists_advance (limit := (committedCal s).nat .buildPeriod) hn hlt
    exact ⟨m, hm, hmlt⟩

theorem setsInv_afterPowerOnReset (s : State) : SetsInv (afterPowerOnReset s) := by
  refine ⟨⟨inRange_defaultCal, ?_, fun hrun => (by cases hrun)⟩, fun _ => ⟨rfl, rfl, rfl⟩, fun hrun => (by cases hrun),
    TracksTimely.nil, trivial⟩
  rintro _ ⟨⟩

end SetsInv

end Sys2Proof.Machine

namespace Sys2Proof.Proofs

open Sys2Proof.Machine

/-- Settles O52: the sets and the operating state move together, and each time restarts below its limit and is held there. -/
theorem calibrationAndTimesKeptByEveryStep : Obligations.CalibrationAndTimesKeptByEveryStep := by
  refine keptByStep_of (inv := SetsInv) (fun s rest h => h) (fun s h => setsInv_tick h) setsInv_afterPowerOnReset
    fun c s u h hu => ?_
  exact (hu.setsInv h).of_eq rfl rfl rfl rfl rfl rfl

end Sys2Proof.Proofs
end

section
/-! SUPPORT. The distribution cache through every step (Chapter 4), the fill buffer and a completed fill's placement: what each
operation does to the slots and to the buffers, and then the proofs of the statements. -/

namespace Sys2Proof.Machine

/-! ## Slots at their places (R63) -/

/-- No id is the tag of two slots, and each slot is as its place allows. -/
def SlotsOk (level : Nat) (slots : Vector CacheSlot 8) : Prop :=
  (∀ i j : Fin 8, ∀ d ∈ (slots.get i).tag, (slots.get j).tag = some d → i = j) ∧
    ∀ i : Fin 8, (slots.get i).PlaceOk level i

/-- The settings and buffers of the cache keep their sizes. -/
def BuffersOk (c : DistCache) : Prop :=
  c.lockLevel ≤ 2 ∧ c.history.length ≤ 8 ∧ c.failed.Nodup ∧ (∀ d ∈ c.failed, d ≤ 31) ∧
    (∀ r ∈ c.request, 1 ≤ r.sends ∧ r.sends ≤ 3 ∧ r.timer < 250) ∧ ∀ f ∈ c.fill, f.id ≤ 31 ∧ f.values.length = 60

/-- The cache's invariant, slots and buffers apart. -/
def CacheOk (c : DistCache) : Prop := SlotsOk c.lockLevel c.slots ∧ BuffersOk c

theorem cacheInv_iff (s : State) : CacheInv s ↔ CacheOk s.cache := by
  simp only [CacheInv, CacheOk, SlotsOk, BuffersOk, and_assoc]

theorem CacheSlot.PlaceOk.dropSlot {level : Nat} {i : Fin 8} {sl : CacheSlot} (h : sl.PlaceOk level i) (level' : Nat) :
    (dropSlot sl).PlaceOk level' i := by
  obtain ⟨-, -, -, hlength⟩ := h
  exact ⟨fun hv => (by cases hv), fun _ ht => (by cases ht), fun d hd => (by cases hd), hlength⟩

/-- Slots that keep or lose their tags stay at their places. -/
theorem SlotsOk.shrink {level level' : Nat} {slots slots' : Vector CacheSlot 8} (h : SlotsOk level slots)
    (htag : ∀ i, (slots'.get i).tag = none ∨ (slots'.get i).tag = (slots.get i).tag)
    (hplace : ∀ i, (slots'.get i).PlaceOk level' i) : SlotsOk level' slots' := by
  obtain ⟨hunique, -⟩ := h
  have hold {i : Fin 8} {d : Nat} (hd : (slots'.get i).tag = some d) : (slots.get i).tag = some d := by
    rcases htag i with hnone | hsame
    · cases hnone.symm.trans hd
    · exact hsame.symm.trans hd
  exact ⟨fun i j d hi hj => hunique i j d (hold hi) (hold hj), hplace⟩

/-- One slot put in place of another with its tag or none. -/
theorem SlotsOk.setSlot {c : DistCache} (h : SlotsOk c.lockLevel c.slots) {d : Nat} {w : Bool} {sl : CacheSlot}
    (htag : sl.tag = none ∨ sl.tag = (c.slot d w).tag) (hplace : sl.PlaceOk c.lockLevel (cacheIndex d w)) :
    SlotsOk c.lockLevel (c.setSlot d w sl).slots := by
  refine h.shrink (fun i => ?_) fun i => ?_ <;> rw [get_setSlot] <;> split
  next hi => exact hi ▸ htag
  next => exact .inr rfl
  next hi => exact hi ▸ hplace
  next => exact h.2 i

/-- A tag lies in its own set (R63). -/
theorem eq_cacheIndex {d : Nat} {i : Fin 8} (h : d % 4 = i.val / 2) : i = cacheIndex d (wayOfIndex i) := by
  apply Fin.ext
  rcases Nat.mod_two_eq_zero_or_one i.val with hmod | hmod
  · simp only [cacheIndex, wayOfIndex, hmod, h]
    simp
    omega
  · simp only [cacheIndex, wayOfIndex, hmod, h]
    simp
    omega

theorem SlotsOk.eq_cacheIndex_of_tag {level : Nat} {slots : Vector CacheSlot 8} (h : SlotsOk level slots) {i : Fin 8} {d : Nat}
    (hd : (slots.get i).tag = some d) : ∃ w, i = cacheIndex d w := by
  obtain ⟨-, -, htag, -⟩ := h.2 i
  exact ⟨_, eq_cacheIndex (htag d hd).2⟩

theorem cacheIndex_ne (d : Nat) (w : Bool) : cacheIndex d (!w) ≠ cacheIndex d w := by
  intro h
  have hway := congrArg wayOfIndex h
  simp at hway

/-! ## A fill written (R76) -/

/-- The slots after a fill is written into a way of its set. -/
theorem get_writeVictim (d : Nat) (values : List Nat) (w : Bool) (c : DistCache) (i : Fin 8) :
    (writeVictim d values w c).slots.get i =
      if i = cacheIndex d w then filledSlot d values
      else if i = cacheIndex d (!w) ∧ c.disabled (!w) = true ∧ (c.slot d (!w)).tag = some d then dropSlot (c.slot d (!w))
      else c.slots.get i := by
  unfold writeVictim
  by_cases hdrop : c.disabled (!w) = true ∧ (c.slot d (!w)).tag = some d
  · obtain ⟨hdisabled, htag⟩ := hdrop
    simp only [hdisabled, htag, beq_self_eq_true, Bool.and_self, if_true, get_setSlot, and_true]
    by_cases hi : i = cacheIndex d (!w)
    · rw [if_pos hi, if_neg (hi ▸ cacheIndex_ne d w), if_pos hi]
    · rw [if_neg hi, if_neg hi]
  · have hcond : (c.disabled (!w) && (c.slot d (!w)).tag == some d) = false := by
      rw [Bool.eq_false_iff, Ne, Bool.and_eq_true, beq_iff_eq]
      exact hdrop
    simp only [hcond, Bool.false_eq_true, if_false, get_setSlot, hdrop, and_false]

theorem writeVictim_eq_setSlot {d : Nat} {w : Bool} {c : DistCache} (values : List Nat) (h : (c.slot d (!w)).tag ≠ some d) :
    writeVictim d values w c = c.setSlot d w (filledSlot d values) := by
  simp [writeVictim, h]

/-- A fill takes a way of its set when its id is the tag of no other enabled slot. -/
theorem SlotsOk.writeVictim {c : DistCache} (h : SlotsOk c.lockLevel c.slots) {d : Nat} {values : List Nat} {w : Bool} (hd : d ≤ 31)
    (hlength : values.length = 120) (hother : (c.slot d (!w)).tag = some d → c.disabled (!w) = true) :
    SlotsOk c.lockLevel (writeVictim d values w c).slots := by
  have hself : (Machine.writeVictim d values w c).slots.get (cacheIndex d w) = filledSlot d values := by
    rw [get_writeVictim, if_pos rfl]
  have hkept {i : Fin 8} (hi : i ≠ cacheIndex d w) :
      ((Machine.writeVictim d values w c).slots.get i).tag = none ∨
        ((Machine.writeVictim d values w c).slots.get i).tag = (c.slots.get i).tag := by
    rw [get_writeVictim, if_neg hi]
    split
    · exact .inl rfl
    · exact .inr rfl
  have hsole {i : Fin 8} (hi : ((Machine.writeVictim d values w c).slots.get i).tag = some d) : i = cacheIndex d w := by
    by_contra hne
    have hold : (c.slots.get i).tag = some d := (hkept hne).elim (fun hnone => by cases hnone.symm.trans hi) fun hsame => hsame ▸ hi
    obtain ⟨v, hv⟩ := h.eq_cacheIndex_of_tag hold
    have hvw : v = !w := by
      cases v <;> cases w <;> simp_all
    subst hvw
    have htag : (c.slot d (!w)).tag = some d := by
      rw [hv] at hold
      exact hold
    rw [get_writeVictim, if_neg hne, if_pos ⟨hv, hother htag, htag⟩] at hi
    cases hi
  have hold {i : Fin 8} {e : Nat} (he : e ≠ d) (hi : ((Machine.writeVictim d values w c).slots.get i).tag = some e) :
      (c.slots.get i).tag = some e := by
    have hne : i ≠ cacheIndex d w := by
      rintro rfl
      rw [hself] at hi
      exact he (Option.some.inj hi).symm
    exact (hkept hne).elim (fun hnone => by cases hnone.symm.trans hi) fun hsame => hsame ▸ hi
  refine ⟨fun i j e hi hj => ?_, fun i => ?_⟩
  · by_cases he : e = d
    · subst he
      exact (hsole hi).trans (hsole hj).symm
    · exact h.1 i j e (hold he hi) (hold he hj)
  · rw [get_writeVictim]
    split
    next hi =>
      refine ⟨fun _ => rfl, fun hv => (by cases hv), ?_, hlength⟩
      rintro _ ⟨⟩
      refine ⟨hd, ?_⟩
      subst hi
      cases w <;> simp [cacheIndex]
      omega
    next =>
      split
      next hi => exact hi.1 ▸ (h.2 (cacheIndex d (!w))).dropSlot _
      next => exact h.2 i

/-! ## What a written fill does beyond its slot (R77) -/

theorem fillWritten_slots (d : Nat) (s : State) : (fillWritten d s).cache.slots = s.cache.slots := by
  rw [fillWritten_touches]

theorem fillWritten_failed (d : Nat) (s : State) : (fillWritten d s).cache.failed = failedRemove d s.cache.failed := by
  unfold fillWritten withdrawDistRequest
  dsimp only
  split
  · split <;> rfl
  · rfl

theorem any_id_iff (d : Nat) (o : Option DistRequest) : o.any (·.id == d) = true ↔ ∃ r ∈ o, r.id = d := by
  simp only [Option.any_eq_true, beq_iff_eq, Option.mem_def]

theorem fillWritten_cancelled {d : Nat} {s : State} (h : ∃ r ∈ s.cache.request, r.id = d) :
    (fillWritten d s).cache.request = none ∧
      (fillWritten d s).cPort.distRequest = if s.cPort.distRequest = some d then none else s.cPort.distRequest := by
  simp only [fillWritten, if_pos ((any_id_iff d _).mpr h), withdrawDistRequest]
  split <;> exact ⟨rfl, rfl⟩

theorem fillWritten_kept {d : Nat} {s : State} (h : ¬∃ r ∈ s.cache.request, r.id = d) :
    (fillWritten d s).cache.request = s.cache.request ∧ (fillWritten d s).cPort.distRequest = s.cPort.distRequest := by
  simp only [fillWritten, if_neg (mt (any_id_iff d _).mp h), and_self]

theorem fillWritten_request (d : Nat) (s : State) :
    (fillWritten d s).cache.request = none ∨ (fillWritten d s).cache.request = s.cache.request := by
  by_cases h : ∃ r ∈ s.cache.request, r.id = d
  · exact .inl (fillWritten_cancelled h).1
  · exact .inr (fillWritten_kept h).1

/-! ## A completed fill's placement (R76) -/

/-- The slot that the first step takes: its tag is the id, in an enabled way. -/
def DistCache.Matched (c : DistCache) (d : Nat) (w : Bool) : Prop := c.disabled w = false ∧ (c.slot d w).tag = some d

section NoMatch

variable {s : State} {d : Nat} {values : List Nat}

theorem matched_of_matchWay {c : DistCache} {w : Bool} (h : c.matchWay d = some w) : c.Matched d w := by
  have hw := List.find?_some h
  simp only [Bool.and_eq_true, Bool.not_eq_true', beq_iff_eq] at hw
  exact hw.1

theorem matchWay_eq_none (h : ∀ w, ¬s.cache.Matched d w) : s.cache.matchWay d = none := by
  cases hway : s.cache.matchWay d with
  | none => rfl
  | some w => exact absurd (matched_of_matchWay hway) (h w)

theorem placeFill_way (h : ∀ w, ¬s.cache.Matched d w) {w : Bool} (hchoice : s.cache.victimChoice d = .way w) :
    placeFill d values s = fillWritten d { s with cache := writeVictim d values w s.cache } := by
  simp only [placeFill, matchWay_eq_none h, hchoice]

theorem placeFill_free (h : ∀ w, ¬s.cache.Matched d w) (hchoice : s.cache.victimChoice d = .free) :
    placeFill d values s =
      fillWritten d
        { s with
          cache := writeVictim d values (Config.victimWay s.freeIndex) s.cache
          freeIndex := s.freeIndex + 1 } := by
  simp only [placeFill, matchWay_eq_none h, hchoice]

theorem placeFill_noRoom (h : ∀ w, ¬s.cache.Matched d w) (hchoice : s.cache.victimChoice d = .noRoom) :
    placeFill d values s = fillNoRoom d s := by
  simp only [placeFill, matchWay_eq_none h, hchoice]

end NoMatch

section Placement

variable {s : State} (hinv : CacheInv s) {d : Nat} {values : List Nat}
include hinv

/-- An invalid slot with a tag is locked, so the match needs only the tag. -/
theorem matchWay_eq_some {w : Bool} (h : s.cache.Matched d w) : s.cache.matchWay d = some w := by
  obtain ⟨hdisabled, htag⟩ := h
  have hlocked : ((s.cache.slot d w).valid || s.cache.locked w) = true := by
    cases hv : (s.cache.slot d w).valid with
    | true => rfl
    | false =>
      obtain ⟨-, hlock, -⟩ := hinv.2.1 (cacheIndex d w)
      have hunder := hlock hv (Option.isSome_iff_exists.mpr ⟨d, htag⟩)
      rw [wayOfIndex_cacheIndex] at hunder
      simpa [DistCache.locked] using hunder
  refine find_way_eq_some (by simp [hdisabled, htag, hlocked]) fun v hv => ?_
  simp only [Bool.and_eq_true, beq_iff_eq] at hv
  obtain ⟨⟨-, hvtag⟩, -⟩ := hv
  exact hinv.way_unique hvtag htag

theorem placeFill_matched {w : Bool} (h : s.cache.Matched d w) :
    placeFill d values s = fillWritten d { s with cache := writeVictim d values w s.cache } := by
  have hother : (s.cache.slot d (!w)).tag ≠ some d := fun htag => by
    have hways := hinv.way_unique htag h.2
    cases w <;> cases hways
  rw [writeVictim_eq_setSlot values hother]
  simp only [placeFill, matchWay_eq_some hinv h]

/-- A fill is written into a way whose sibling, if it has the id's tag, is disabled; or it finds no room. -/
theorem placeFill_cases (values : List Nat) :
    (∃ w n, ((s.cache.slot d (!w)).tag = some d → s.cache.disabled (!w) = true) ∧
      placeFill d values s = fillWritten d { s with cache := writeVictim d values w s.cache, freeIndex := n }) ∨
      placeFill d values s = fillNoRoom d s := by
  by_cases hmatch : ∃ w, s.cache.Matched d w
  · obtain ⟨w, hw⟩ := hmatch
    refine .inl ⟨w, s.freeIndex, fun htag => ?_, placeFill_matched hinv hw⟩
    have hways := hinv.way_unique htag hw.2
    cases w <;> cases hways
  · have hnone : ∀ w, ¬s.cache.Matched d w := fun w hw => hmatch ⟨w, hw⟩
    have hdisabled (w : Bool) (htag : (s.cache.slot d w).tag = some d) : s.cache.disabled w = true :=
      Bool.of_not_eq_false fun hd => hnone w ⟨hd, htag⟩
    cases hchoice : s.cache.victimChoice d with
    | noRoom => exact .inr (placeFill_noRoom hnone hchoice)
    | way w => exact .inl ⟨w, s.freeIndex, hdisabled _, placeFill_way hnone hchoice⟩
    | free => exact .inl ⟨_, _, hdisabled _, placeFill_free hnone hchoice⟩

end Placement

/-! ## The victim (R76, step 2) -/

section Victim

variable {c : DistCache} {d : Nat}

theorem candidate_iff (c : DistCache) (w : Bool) : c.candidate w = true ↔ c.locked w = false ∧ c.disabled w = false := by
  simp only [DistCache.candidate, Bool.and_eq_true, Bool.not_eq_true']

theorem victimChoice_first (h : c.candidate false = true) (hv : (c.slot d false).valid = false) :
    c.victimChoice d = .way false := by
  cases hother : c.candidate true <;> simp [DistCache.victimChoice, h, hother, hv]

theorem victimChoice_second (h : c.candidate true = true) (hv : (c.slot d true).valid = false)
    (hfirst : ¬(c.candidate false = true ∧ (c.slot d false).valid = false)) : c.victimChoice d = .way true := by
  cases hother : c.candidate false with
  | false => simp [DistCache.victimChoice, h, hother]
  | true =>
    have hvalid : (c.slot d false).valid = true := Bool.of_not_eq_false fun hf => hfirst ⟨hother, hf⟩
    simp [DistCache.victimChoice, h, hother, hv, hvalid]

theorem victimChoice_only {w : Bool} (h : c.candidate w = true) (hother : ¬c.candidate (!w) = true) :
    c.victimChoice d = .way w := by
  have hfalse := Bool.eq_false_iff.mpr hother
  cases w with
  | false =>
    simp only [Bool.not_false] at hfalse
    simp [DistCache.victimChoice, h, hfalse]
  | true =>
    simp only [Bool.not_true] at hfalse
    simp [DistCache.victimChoice, h, hfalse]

theorem victimChoice_free (hfalse : c.candidate false = true) (htrue : c.candidate true = true)
    (hvfalse : (c.slot d false).valid = true) (hvtrue : (c.slot d true).valid = true) : c.victimChoice d = .free := by
  simp [DistCache.victimChoice, hfalse, htrue, hvfalse, hvtrue]

theorem victimChoice_noRoom (hfalse : ¬c.candidate false = true) (htrue : ¬c.candidate true = true) :
    c.victimChoice d = .noRoom := by
  simp [DistCache.victimChoice, hfalse, htrue]

end Victim

/-- What a fill of id `d` written into way `w` leaves of the whole state (R76, R77). -/
def FillTaken (d : Nat) (values : List Nat) (s : State) (w : Bool) (u : State) : Prop :=
  u.cache.slot d w = { valid := true, tag := some d, values := values, checks := rowChecks values, lastUse := 0 } ∧
    u.cache.slot d (!w) =
      (if s.cache.disabled (!w) = true ∧ (s.cache.slot d (!w)).tag = some d then
        { s.cache.slot d (!w) with valid := false, tag := none }
      else s.cache.slot d (!w)) ∧
    (∀ i : Fin 8, i ≠ cacheIndex d w → i ≠ cacheIndex d (!w) → u.cache.slots.get i = s.cache.slots.get i) ∧
    u.cache.failed = s.cache.failed.filter (· != d) ∧
    (if ∃ r ∈ s.cache.request, r.id = d then
      u.cache.request = none ∧
        u.cPort.distRequest = if s.cPort.distRequest = some d then none else s.cPort.distRequest
    else u.cache.request = s.cache.request ∧ u.cPort.distRequest = s.cPort.distRequest) ∧
    u =
      { s with
        cache := { s.cache with slots := u.cache.slots, failed := u.cache.failed, request := u.cache.request }
        cPort := { s.cPort with distRequest := u.cPort.distRequest }
        freeIndex := u.freeIndex }

theorem fillTaken_writeVictim (d : Nat) (values : List Nat) (s : State) (w : Bool) (n : Nat) :
    FillTaken d values s w (fillWritten d { s with cache := writeVictim d values w s.cache, freeIndex := n }) ∧
      (fillWritten d { s with cache := writeVictim d values w s.cache, freeIndex := n }).freeIndex = n := by
  have hrequest : (writeVictim d values w s.cache).request = s.cache.request := by rw [writeVictim_touches]
  have hfailed : (writeVictim d values w s.cache).failed = s.cache.failed := by rw [writeVictim_touches]
  generalize hv : ({ s with cache := writeVictim d values w s.cache, freeIndex := n } : State) = v
  have hcache : v.cache = writeVictim d values w s.cache := hv ▸ rfl
  have hport : v.cPort = s.cPort := hv ▸ rfl
  have hget (i : Fin 8) : (fillWritten d v).cache.slots.get i = (writeVictim d values w s.cache).slots.get i := by
    rw [fillWritten_slots, hcache]
  refine ⟨⟨?self, ?other, fun i hi hi' => ?rest, ?failed, ?request, ?whole⟩, ?free⟩
  case self =>
    rw [DistCache.slot, hget, get_writeVictim, if_pos rfl]
    rfl
  case other =>
    rw [DistCache.slot, hget, get_writeVictim, if_neg (cacheIndex_ne d w)]
    exact if_congr ⟨fun h => h.2, fun h => ⟨rfl, h⟩⟩ rfl rfl
  case rest => rw [hget, get_writeVictim, if_neg hi, if_neg fun h => hi' h.1]
  case failed => rw [fillWritten_failed, hcache, hfailed]; rfl
  case request =>
    split
    next h =>
      obtain ⟨hnone, hsent⟩ := fillWritten_cancelled (s := v) (by rwa [hcache, hrequest])
      exact ⟨hnone, hport ▸ hsent⟩
    next h =>
      obtain ⟨hkept, hsent⟩ := fillWritten_kept (s := v) (by rwa [hcache, hrequest])
      exact ⟨by rw [hkept, hcache, hrequest], hport ▸ hsent⟩
  case whole =>
    subst hv
    rw [fillWritten_touches, writeVictim_touches]
  case free =>
    subst hv
    simp

/-! ## The buffers (R68 to R75) -/

theorem length_distValues (data : List Byte) : (distValues data).length = 60 := by simp [distValues]

theorem failedAdd_nodup (d : Nat) (failed : List Nat) : (failedAdd d failed).Nodup := List.nodup_range.filter _

theorem failedAdd_le {d i : Nat} {failed : List Nat} (h : i ∈ failedAdd d failed) : i ≤ 31 :=
  Nat.le_of_lt_succ ((mem_failedAdd i d failed).mp h).1

section CacheOk

variable {c : DistCache}

theorem CacheOk.withRequest (h : CacheOk c) {o : Option DistRequest}
    (ho : ∀ r ∈ o, 1 ≤ r.sends ∧ r.sends ≤ 3 ∧ r.timer < 250) : CacheOk { c with request := o } := by
  obtain ⟨hslots, hlevel, hhistory, hnodup, hfailed, -, hfill⟩ := h
  exact ⟨hslots, hlevel, hhistory, hnodup, hfailed, ho, hfill⟩

theorem CacheOk.noRequest (h : CacheOk c) : CacheOk { c with request := none } := h.withRequest (by simp)

theorem CacheOk.withFailed (h : CacheOk c) {failed : List Nat} (hnodup : failed.Nodup) (hle : ∀ d ∈ failed, d ≤ 31) :
    CacheOk { c with failed := failed } := by
  obtain ⟨hslots, hlevel, hhistory, -, -, hrequest, hfill⟩ := h
  exact ⟨hslots, hlevel, hhistory, hnodup, hle, hrequest, hfill⟩

theorem CacheOk.failedAdd (h : CacheOk c) (d : Nat) : CacheOk { c with failed := failedAdd d c.failed } :=
  h.withFailed (failedAdd_nodup d _) fun _ hi => failedAdd_le hi

theorem CacheOk.failedRemove (h : CacheOk c) (d : Nat) : CacheOk { c with failed := failedRemove d c.failed } := by
  obtain ⟨-, -, -, hnodup, hfailed, -⟩ := id h
  exact h.withFailed (hnodup.filter _) fun i hi => hfailed i (List.mem_of_mem_filter hi)

theorem CacheOk.withFill (h : CacheOk c) {o : Option OpenFill} (ho : ∀ f ∈ o, f.id ≤ 31 ∧ f.values.length = 60) :
    CacheOk { c with fill := o } := by
  obtain ⟨hslots, hlevel, hhistory, hnodup, hfailed, hrequest, -⟩ := h
  exact ⟨hslots, hlevel, hhistory, hnodup, hfailed, hrequest, ho⟩

theorem CacheOk.withSlots (h : CacheOk c) {slots : Vector CacheSlot 8} (hslots : SlotsOk c.lockLevel slots) :
    CacheOk { c with slots := slots } := by
  obtain ⟨-, hbuffers⟩ := h
  exact ⟨hslots, hbuffers⟩

theorem CacheOk.addHistory (h : CacheOk c) (d : Nat) (o : LookupOutcome) : CacheOk (addHistory d o c) := by
  obtain ⟨hslots, hlevel, -, hnodup, hfailed, hrequest, hfill⟩ := h
  exact ⟨hslots, hlevel, List.length_take_le _ _, hnodup, hfailed, hrequest, hfill⟩

theorem CacheOk.setSlot (h : CacheOk c) {d : Nat} {w : Bool} {sl : CacheSlot}
    (htag : sl.tag = none ∨ sl.tag = (c.slot d w).tag) (hplace : sl.PlaceOk c.lockLevel (cacheIndex d w)) :
    CacheOk (c.setSlot d w sl) := h.withSlots (h.1.setSlot htag hplace)

theorem CacheOk.dropSlot (h : CacheOk c) (d : Nat) (w : Bool) : CacheOk (c.setSlot d w (dropSlot (c.slot d w))) :=
  h.setSlot (.inl rfl) ((h.1.2 (cacheIndex d w)).dropSlot _)

theorem CacheOk.cleared (h : CacheOk c) (spare : Bool → Bool) :
    CacheOk (c.mapSlots fun w sl => if spare w then sl else Machine.dropSlot sl) := by
  have hget (i : Fin 8) : (c.mapSlots fun w sl => if spare w then sl else Machine.dropSlot sl).slots.get i =
      if spare (wayOfIndex i) then c.slots.get i else Machine.dropSlot (c.slots.get i) := get_mapSlots c _ i
  have hslots : SlotsOk c.lockLevel (c.mapSlots fun w sl => if spare w then sl else Machine.dropSlot sl).slots := by
    refine h.1.shrink (fun i => ?_) fun i => ?_ <;> rw [hget] <;> split
    · exact .inr rfl
    · exact .inl rfl
    · exact h.1.2 i
    · exact (h.1.2 i).dropSlot _
  exact h.withSlots hslots

/-- A slot that keeps its tag under a new level is valid or locked under it. -/
theorem CacheOk.applyLock (h : CacheOk c) (level : Nat) (protect way0 way1 : Bool) :
    CacheOk (applyLock level protect way0 way1 c) := by
  obtain ⟨hslots, -, hhistory, hnodup, hfailed, hrequest, hfill⟩ := h
  refine ⟨hslots.shrink (fun i => ?_) fun i => ?_, Nat.min_le_right _ _, hhistory, hnodup, hfailed, hrequest, hfill⟩ <;>
    (rw [Machine.applyLock, get_mapSlots]; split)
  · exact .inl rfl
  · exact .inr rfl
  next hcleared =>
    simp only [Bool.and_eq_true, Bool.not_eq_true'] at hcleared
    obtain ⟨-, -, -, hlength⟩ := hslots.2 i
    refine ⟨fun hv => ?_, fun _ ht => (by cases ht), fun d hd => (by cases hd), hlength⟩
    cases hcleared.1.symm.trans hv
  next hkept =>
    simp only [Bool.and_eq_true, Bool.not_eq_true', not_and, Bool.not_eq_false] at hkept
    obtain ⟨hvalid, -, htag, hlength⟩ := hslots.2 i
    exact ⟨hvalid, fun hv _ => hkept hv, htag, hlength⟩

theorem CacheOk.restart (h : CacheOk c) : CacheOk (restartCache c) := by
  obtain ⟨hslots, hlevel, -⟩ := h
  exact ⟨hslots, hlevel, by simp [restartCache], by simp [restartCache], by simp [restartCache], by simp [restartCache],
    by simp [restartCache]⟩

theorem CacheOk.ticked (h : CacheOk c) : CacheOk { c with request := c.request.map advanceRequest } := by
  obtain ⟨-, -, -, -, -, hrequest, -⟩ := id h
  refine h.withRequest fun r hr => ?_
  obtain ⟨old, hold, rfl⟩ := Option.mem_map.mp hr
  obtain ⟨hlow, hhigh, htimer⟩ := hrequest old hold
  refine ⟨hlow, hhigh, ?_⟩
  have hlimit : Config.requestLimit = 250 := rfl
  simp only [advanceRequest, hlimit]
  split <;> omega

end CacheOk

theorem cacheOk_reset : CacheOk resetCache := by
  refine ⟨⟨fun i j d hi => ?_, fun i => ?_⟩, by decide, by decide, List.nodup_nil, by simp [resetCache], by simp [resetCache],
    by simp [resetCache]⟩ <;> rw [get_resetCache_slots] at *
  · cases hi
  · exact ⟨fun hv => (by cases hv), fun _ ht => (by cases ht), fun d hd => (by cases hd), List.length_replicate⟩

/-! ## The lookup (R65 to R68) -/

section Lookup

variable {s : State} (h : CacheOk s.cache) (d sequence : Nat)
include h

theorem cacheOk_missRequest : CacheOk (missRequest d s).cache := by
  have hnew : CacheOk (newRequest d s).cache := h.withRequest (by
    rintro _ ⟨⟩
    simp)
  unfold missRequest
  split
  · exact h
  · split
    · split
      · exact h
      · exact hnew
    · exact hnew

theorem cacheOk_lookupMiss : CacheOk (lookupMiss d s).cache := by
  have hcache : (lookupMiss d s).cache = addHistory d .miss (missRequest d s).cache := by simp [lookupMiss]
  rw [hcache]
  exact (cacheOk_missRequest h d).addHistory d .miss

theorem cacheOk_lookupHit (w : Bool) : CacheOk (lookupHit d sequence w s).cache :=
  (h.setSlot (sl := { s.cache.slot d w with lastUse := sequence }) (.inr rfl) (h.1.2 (cacheIndex d w))).addHistory d .hit

/-- A slot that fails its check keeps its tag only while locked. -/
theorem cacheOk_lookupParity (w : Bool) : CacheOk (lookupParity d sequence w s).cache := by
  rw [lookupParity_eq]
  simp only [raiseFault_frame]
  obtain ⟨hvalid, -, htag, hlength⟩ := h.1.2 (cacheIndex d w)
  cases hlocked : s.cache.locked w with
  | false => exact h.dropSlot d w
  | true =>
    refine h.setSlot (.inr rfl) ⟨fun hv => (by cases hv), fun _ _ => ?_, htag, hlength⟩
    rw [wayOfIndex_cacheIndex]
    exact hlocked

theorem cacheOk_lookup : CacheOk (lookup d sequence s).1.cache := by
  unfold lookup
  split
  · exact cacheOk_lookupMiss h d
  next w _ =>
    split
    · exact cacheOk_lookupHit h d sequence w
    · exact cacheOk_lookupMiss (cacheOk_lookupParity h d sequence w) d

theorem cacheOk_lookupFor (mode : BeamMode) : CacheOk (lookupFor mode sequence s).1.cache := by
  unfold lookupFor
  split
  · exact h
  · exact cacheOk_lookup h _ sequence

end Lookup

/-! ## Every change -/

/-- The cache after a completed fill. -/
theorem cacheOk_placeFill {s : State} (h : CacheOk s.cache) {d : Nat} {values : List Nat} (hd : d ≤ 31)
    (hlength : values.length = 120) : CacheOk (placeFill d values s).cache := by
  rcases placeFill_cases ((cacheInv_iff s).mpr h) (d := d) values with ⟨w, n, hother, hplaced⟩ | hnone
  · rw [hplaced]
    have hwritten : CacheOk (writeVictim d values w s.cache) := by
      rw [writeVictim_touches]
      exact h.withSlots (h.1.writeVictim hd hlength hother)
    have hcleared := hwritten.failedRemove d
    generalize hv : ({ s with cache := writeVictim d values w s.cache, freeIndex := n } : State) = v
    have hcache : v.cache = writeVictim d values w s.cache := hv ▸ rfl
    have htouch : (fillWritten d v).cache =
        { v.cache with failed := failedRemove d v.cache.failed, request := (fillWritten d v).cache.request } := by
      rw [← fillWritten_failed, fillWritten_touches]
    rw [htouch, hcache]
    rcases fillWritten_request d v with hr | hr <;> rw [hr]
    · exact hcleared.noRequest
    · rw [hcache]
      exact hcleared
  · rw [hnone]
    have hadded := h.failedAdd d
    simp only [fillNoRoom, raiseFault_frame]
    split
    · exact hadded.noRequest
    · exact hadded

theorem CacheChange.cacheOk {s u : State} (h : CacheChange s u) (hs : CacheOk s.cache) : CacheOk u.cache := by
  cases h with
  | opened d data hd =>
    refine hs.withFill ?_
    rintro _ ⟨⟩
    exact ⟨hd, length_distValues data⟩
  | placed f data hd hf =>
    have hclosed : CacheOk { s.cache with fill := none } := hs.withFill (by simp)
    obtain ⟨-, -, -, -, -, -, hfill⟩ := hs
    have hlength : (f.values ++ distValues data).length = 120 := by
      rw [List.length_append, (hfill f hf).2, length_distValues]
    exact cacheOk_placeFill (s := { s with cache := { s.cache with fill := none } }) hclosed hd hlength
  | dropped d w => exact hs.dropSlot d w
  | cleared spare => exact hs.cleared spare
  | locked level protect way0 way1 => exact hs.applyLock level protect way0 way1
  | sentAgain r hr hsends =>
    refine hs.withRequest ?_
    rintro _ ⟨⟩
    exact ⟨Nat.succ_pos _, hsends, Nat.succ_pos _⟩
  | givenUp r => simpa using (hs.failedAdd r.id).noRequest

theorem startBuild_cache (slot : Fin 6) (s : State) :
    ∃ mode sequence, (startBuild slot s).cache = (lookupFor mode sequence { s with store := s.store.claim slot }).1.cache :=
  ⟨_, _, rfl⟩

theorem BuildChange.cacheOk {s u : State} (h : BuildChange s u) (hs : CacheOk s.cache) : CacheOk u.cache := by
  cases h with
  | overrun b => simpa [restartTimer] using hs
  | started slot =>
    obtain ⟨mode, sequence, hcache⟩ := startBuild_cache slot (restartTimer s)
    rw [hcache]
    exact cacheOk_lookupFor (s := { restartTimer s with store := (restartTimer s).store.claim slot }) hs sequence mode
  | computed b => simpa using hs
  | blockWritten b f n w lamp k => simpa [afterBlockWrite] using hs
  | committed b f n w => simpa [afterCommit_frame] using hs

theorem OperatingChange.cacheOk {c : Instr} {s u : State} (h : OperatingChange s c u) (hs : CacheOk s.cache) : CacheOk u.cache := by
  cases h with
  | written _ p v => simpa using hs
  | ran data => simpa using hs
  | configured data => simpa using hs
  | restarted data => simpa [resetBlocks] using hs.restart
  | restartedAnew data => simpa [resetBlocks] using hs.restart

theorem Change.cacheOk {c : Instr} {s u : State} (h : Change c s u) (hs : CacheOk s.cache) : CacheOk u.cache := by
  have hkept {v : State} (hv : v.cache = s.cache) : CacheOk v.cache := hv ▸ hs
  cases h with
  | unchanged => exact hs
  | fault f => exact hkept (by simp)
  | tracks h => exact hkept (by simp [h.frame])
  | driving h => exact hkept (by simp [h.frame])
  | cache h => exact h.cacheOk hs
  | build h => exact h.cacheOk hs
  | link x h => exact hkept (by simp [h.frame])
  | diag h => exact hkept (by simp [h.frame])
  | operating h => exact h.cacheOk hs
  | port h => exact hkept (by simp [h.frame])

/-! ## DIST_DATA (R74, R75) -/

section DistData

variable {data : List Byte} {s : State} (hlen : data.length = 64) (hbus : s.cPort.busOff = false)
include hlen hbus

theorem gives_distData_unknownPart (hpart : 1 < byteAt data 0) :
    Gives (.distData data) s (raiseFault (badMessage idDistData 0) s) := by
  show execDistData data s = _
  rw [execDistData, lengthIs, hlen, beq_self_eq_true, receiveC_ok _ _ _ hbus, if_pos hpart]
  rfl

theorem gives_distData_unknownId (hpart : byteAt data 0 ≤ 1) (hd : 31 < byteAt data 1) :
    Gives (.distData data) s (raiseFault (badMessage idDistData (byteAt data 0)) s) := by
  show execDistData data s = _
  rw [execDistData, lengthIs, hlen, beq_self_eq_true, receiveC_ok _ _ _ hbus, if_neg hpart.not_gt, if_pos hd]
  rfl

theorem gives_distData_opened (hpart : byteAt data 0 = 0) (hd : byteAt data 1 ≤ 31) :
    Gives (.distData data) s
      { s with cache := { s.cache with fill := some { id := byteAt data 1, values := distValues data } } } := by
  show execDistData data s = _
  rw [execDistData, lengthIs, hlen, beq_self_eq_true, receiveC_ok _ _ _ hbus, if_neg (by omega), if_neg hd.not_gt, if_pos hpart]
  rfl

theorem gives_distData_completed (hpart : byteAt data 0 = 1) (hd : byteAt data 1 ≤ 31) :
    Gives (.distData data) s (completeFill (byteAt data 1) (distValues data) s) := by
  show execDistData data s = _
  rw [execDistData, lengthIs, hlen, beq_self_eq_true, receiveC_ok _ _ _ hbus, if_neg (by omega), if_neg hd.not_gt,
    if_neg (by omega)]
  rfl

end DistData

theorem completeFill_own {d : Nat} {values : List Nat} {s : State} {f : OpenFill} (hf : s.cache.fill = some f) (hid : f.id = d) :
    completeFill d values s = placeFill d (f.values ++ values) { s with cache := { s.cache with fill := none } } := by
  simp only [completeFill, hf, hid, if_true]

theorem completeFill_other {d : Nat} {values : List Nat} {s : State} (h : ∀ f ∈ s.cache.fill, f.id ≠ d) :
    completeFill d values s = raiseFault (badMessage idDistData 1) s := by
  unfold completeFill
  split
  next f hf => rw [if_neg (h f hf)]
  next => rfl

end Sys2Proof.Machine

namespace Sys2Proof.Proofs

open Sys2Proof.Machine

/-- Settles O54: each operation on the cache keeps its slots at their places and its buffers in their sizes. -/
theorem cacheTagsKeptByEveryStep : Obligations.CacheTagsKeptByEveryStep := by
  refine keptByStep_of (fun s rest h => h) (fun s h => ?_) (fun s => (cacheInv_iff _).mpr cacheOk_reset) fun c s u h hu => ?_
  · exact (cacheInv_iff _).mpr ((cacheInv_iff s).mp h).ticked
  · exact (cacheInv_iff _).mpr (hu.cacheOk ((cacheInv_iff s).mp h))

/-- Settles O23: by the part, then the id, then the open fill. -/
theorem distDataFillsTheBuffer : Obligations.DistDataFillsTheBuffer := by
  intro data s hlen hbus
  refine ⟨fun hpart => gives_distData_unknownPart hlen hbus hpart, fun hpart hd => gives_distData_unknownId hlen hbus hpart hd,
    fun hpart hd => gives_distData_opened hlen hbus hpart hd, fun hpart hd => ⟨fun f hf hid => ?_, fun hother => ?_⟩⟩
  · have hgives := gives_distData_completed hlen hbus hpart hd
    rwa [completeFill_own hf hid] at hgives
  · have hgives := gives_distData_completed hlen hbus hpart hd
    rwa [completeFill_other hother] at hgives

/-- Settles O24: the first step of R76 that applies, and what a written fill or no room then does. -/
theorem fillTakesMatchVictimOrNoRoom : Obligations.FillTakesMatchVictimOrNoRoom := by
  intro d values s hinv hd u slot candidate matched written
  have hcandidate (w : Bool) : s.cache.candidate w = true ↔ candidate w := candidate_iff s.cache w
  have htaken {w : Bool} (hu : u = fillWritten d { s with cache := writeVictim d values w s.cache }) :
      written w ∧ u.freeIndex = s.freeIndex := by
    have htaken' := fillTaken_writeVictim d values s w s.freeIndex
    rw [← hu] at htaken'
    exact htaken'
  refine ⟨fun w hw => htaken (placeFill_matched hinv hw), fun hnone => ⟨fun hc hv => ?first, fun hc hv hfirst => ?second,
    fun w hc hv hother => ?only, fun hfalse htrue hvfalse hvtrue => ?free, fun hfalse htrue => ?noRoom⟩⟩
  case first => exact htaken (placeFill_way hnone (victimChoice_first ((hcandidate _).mpr hc) hv))
  case second =>
    refine htaken (placeFill_way hnone (victimChoice_second ((hcandidate _).mpr hc) hv fun h => hfirst ?_))
    exact ⟨(hcandidate _).mp h.1, h.2⟩
  case only =>
    exact htaken (placeFill_way hnone (victimChoice_only ((hcandidate _).mpr hc) (mt (hcandidate _).mp hother)))
  case free =>
    have hfree := placeFill_free (values := values) hnone
      (victimChoice_free ((hcandidate _).mpr hfalse) ((hcandidate _).mpr htrue) hvfalse hvtrue)
    have hwritten : written (Config.victimWay s.freeIndex) := by
      have htaken' := (fillTaken_writeVictim d values s (Config.victimWay s.freeIndex) (s.freeIndex + 1)).1
      rw [← hfree] at htaken'
      exact htaken'
    cases hway : Config.victimWay s.freeIndex with
    | false => exact .inl (hway ▸ hwritten)
    | true => exact .inr (hway ▸ hwritten)
  case noRoom =>
    have hu : u = fillNoRoom d s :=
      placeFill_noRoom hnone (victimChoice_noRoom (mt (hcandidate _).mp hfalse) (mt (hcandidate _).mp htrue))
    have hfailed : u.cache.failed = failedAdd d s.cache.failed := by rw [hu]; simp [fillNoRoom]
    obtain ⟨-, -, -, -, -, hle, -⟩ := hinv
    refine ⟨fun i => ?_, ?_⟩
    · rw [hfailed, mem_failedAdd]
      refine ⟨fun h => h.2, fun h => ⟨?_, h⟩⟩
      rcases h with rfl | h
      · omega
      · have hi := hle i h
        omega
    · rw [hfailed, hu, fillNoRoom]
      simp only [any_id_iff]
      rfl

end Sys2Proof.Proofs
end

section
/-! SUPPORT. The access port and its arbiter (7.6, R132 to R134): what a request, a release and a grant do, in the order of the model's
definitions, the diagnostic block read, and then the proofs of the statements. -/

namespace Sys2Proof.Machine

/-! ## Waiting requests -/

theorem isDiag_eq_false_iff (a : PortAccess) : a.isDiag = false ↔ ∀ i x k, a ≠ .diagRead i x k := by
  cases a <;> simp [PortAccess.isDiag]

theorem waiting_withBusy (st : FrameStore) (busy : Option PortUse) (r : Requester) :
    ({ st with busy := busy } : FrameStore).waiting r = st.waiting r := by
  cases r <;> rfl

theorem waiting_withLast (st : FrameStore) (last r : Requester) :
    ({ st with lastGranted := last } : FrameStore).waiting r = st.waiting r := by
  cases r <;> rfl

theorem setWaiting_setWaiting (st : FrameStore) (r : Requester) (a b : Option PortAccess) :
    (st.setWaiting r a).setWaiting r b = st.setWaiting r b := by
  cases r <;> rfl

theorem setWaiting_self {st : FrameStore} {r : Requester} {a : Option PortAccess} (h : st.waiting r = a) :
    st.setWaiting r a = st := by
  subst h
  cases r <;> rfl

/-- A requester that alone waits is granted next. -/
theorem nextGrant_only {st : FrameStore} {r : Requester} {a : PortAccess} (hr : st.waiting r = some a)
    (hothers : ∀ q, q ≠ r → st.waiting q = none) : st.nextGrant = some (r, a) := by
  cases hnext : st.nextGrant with
  | none =>
    rw [(nextGrant_eq_none st).mp hnext r] at hr
    cases hr
  | some p =>
    obtain ⟨q, b⟩ := p
    have hq := nextGrant_waiting st q b hnext
    have hqr : q = r := by
      by_contra hne
      rw [hothers q hne] at hq
      cases hq
    subst hqr
    rw [hr] at hq
    cases hq
    rfl

/-! ## A grant (R132, R134) -/

theorem grant_stored (r : Requester) {s : State} {i : Fin 6} (x : Side) (k : Fin 5) (h : (s.store.slot i).state = .stored) :
    grant r (.diagRead i x k) s =
      { s with store := { s.store.setWaiting r none with
          lastGranted := r
          busy := some
            { requester := r, access := .diagRead i x k, wanted := true
              found := some
                { newest := (s.store.slot i).newest, holders := (s.store.slot i).holders
                  sequence := (s.store.slot i).sequence.getD 0, values := (s.store.slot i).memory.block x k } } } } := by
  cases r <;> exact (by simp only [grant, diagFind, FrameStore.slot] at h ⊢; simp [FrameStore.setWaiting, h])

theorem grant_empty (r : Requester) {s : State} {i : Fin 6} (x : Side) (k : Fin 5) (h : (s.store.slot i).state ≠ .stored) :
    grant r (.diagRead i x k) s =
      placeReply .empty { s with store := { s.store.setWaiting r none with lastGranted := r } } := by
  cases r <;> exact (by simp only [grant, diagFind, FrameStore.slot] at h ⊢; simp [FrameStore.setWaiting, h])

/-! ## The arbiter -/

theorem arbitrate_busy {s : State} (h : s.store.busy.isSome = true) : arbitrate s = s := by
  rw [arbitrate, grantNext_busy s h, grantNext_busy s h]

theorem arbitrate_idle {s : State} (h : ∀ r, s.store.waiting r = none) : arbitrate s = s := by
  have hnone := grantNext_none s ((nextGrant_eq_none _).mpr h)
  rw [arbitrate, hnone, hnone]

/-- At a free port the next requester's access is made. -/
theorem arbitrate_granted {s : State} {r : Requester} {a : PortAccess} (hbusy : s.store.busy = none)
    (hnext : s.store.nextGrant = some (r, a)) (hgranted : (grant r a s).store.busy.isSome = true) :
    arbitrate s = grant r a s := by
  rw [arbitrate, grantNext_some s r a hbusy hnext, grantNext_busy _ hgranted]

/-- What holds at a free port and is kept by each grant of a waiting request holds once the arbiter is done. -/
theorem arbitrate_induction {P : State → Prop}
    (hgrant : ∀ s r a, s.store.busy = none → s.store.waiting r = some a → P s → P (grant r a s)) {s : State} (h : P s) :
    P (arbitrate s) := by
  have hnext (s : State) (h : P s) : P (grantNext s) := by
    by_cases hbusy : s.store.busy.isSome = true
    · rwa [grantNext_busy s hbusy]
    · cases hn : s.store.nextGrant with
      | none => rwa [grantNext_none s hn]
      | some p =>
        obtain ⟨r, a⟩ := p
        rw [Option.not_isSome_iff_eq_none] at hbusy
        rw [grantNext_some s r a hbusy hn]
        exact hgrant s r a hbusy (nextGrant_waiting _ _ _ hn) h
  exact hnext _ (hnext s h)

/-- A grant touches the port, and the reply of a diagnostic read. -/
theorem grant_touches (r : Requester) (a : PortAccess) (s : State) :
    grant r a s =
      { s with
        store := { (grant r a s).store with slots := s.store.slots }
        cPort := { s.cPort with diagReply := (grant r a s).cPort.diagReply } } := by
  by_cases hdiag : a.isDiag = false
  · rw [grant_access r a s ((isDiag_eq_false_iff a).mp hdiag)]
    cases r <;> rfl
  · cases a with
    | diagRead i x k =>
      by_cases hstored : (s.store.slot i).state = .stored
      · rw [grant_stored r x k hstored]
        cases r <;> rfl
      · rw [grant_empty r x k hstored]
        cases r <;> rfl
    | blockWrite | headerWrite | headerRead | blockRead | compare => exact absurd rfl hdiag

/-- Two states that differ at the port and in the diagnostic reply alone. -/
def SameButPort (s u : State) : Prop :=
  u = { s with store := u.store, cPort := { s.cPort with diagReply := u.cPort.diagReply } } ∧ u.store.slots = s.store.slots

theorem sameButPort_arbitrate {s v : State} (h : SameButPort s v) : SameButPort s (arbitrate v) := by
  refine arbitrate_induction (P := SameButPort s) (fun v r a _ _ hv => ?_) h
  obtain ⟨heq, hslots⟩ := hv
  refine ⟨?_, (grant_slots r a v).trans hslots⟩
  rw [grant_touches r a v]
  rw [heq]

theorem sameButPort_requestPort (r : Requester) (a : PortAccess) (s : State) : SameButPort s (requestPort r a s) :=
  sameButPort_arbitrate ⟨rfl, setWaiting_slots _ _ _⟩

theorem sameButPort_releasePort (s : State) : SameButPort s (releasePort s) := sameButPort_arbitrate ⟨rfl, rfl⟩

/-! ## A request and a release (R132) -/

theorem requestPort_busy {s : State} (r : Requester) (a : PortAccess) (h : s.store.busy.isSome = true) :
    requestPort r a s = { s with store := s.store.setWaiting r (some a) } :=
  arbitrate_busy (by simpa using h)

/-- At an idle port where nobody else waits, a request is granted at once. -/
theorem requestPort_idle {s : State} {r : Requester} (a : PortAccess) (hbusy : s.store.busy = none)
    (hothers : ∀ q, q ≠ r → s.store.waiting q = none) (hdiag : a.isDiag = false) :
    requestPort r a s =
      { s with store := { s.store.setWaiting r none with
          lastGranted := r, busy := some { requester := r, access := a, wanted := true, found := none } } } := by
  have hnext : ((s.store.setWaiting r (some a)).nextGrant) = some (r, a) :=
    nextGrant_only (waiting_setWaiting _ _ _) fun q hq => (waiting_setWaiting_ne hq _ _).trans (hothers q hq)
  have hother := (isDiag_eq_false_iff a).mp hdiag
  rw [requestPort, arbitrate_granted (r := r) (a := a) (by simpa using hbusy) hnext (grant_busy _ _ _ hother), grant_access _ _ _ hother]
  simp only [setWaiting_setWaiting]

theorem releasePort_idle {s : State} (h : ∀ q, s.store.waiting q = none) :
    releasePort s = { s with store := { s.store with busy := none } } :=
  arbitrate_idle fun r => (waiting_withBusy _ _ r).trans (h r)

/-- At a release the first waiting requester of the cycle is granted. -/
theorem releasePort_granted {s : State} {earlier later : List Requester} {r : Requester} {a : PortAccess}
    (hcycle : cycleAfter s.store.lastGranted = earlier ++ r :: later) (hearlier : ∀ q ∈ earlier, s.store.waiting q = none)
    (hr : s.store.waiting r = some a)
    (hgranted : (grant r a { s with store := { s.store with busy := none } }).store.busy.isSome = true) :
    releasePort s = grant r a { s with store := { s.store with busy := none } } := by
  refine arbitrate_granted rfl ?_ hgranted
  exact nextGrant_of_cycle _ earlier later r a hcycle (fun q hq => (waiting_withBusy _ _ q).trans (hearlier q hq))
    ((waiting_withBusy _ _ r).trans hr)

theorem releasePort_granted_other {s : State} {earlier later : List Requester} {r : Requester} {a : PortAccess}
    (hcycle : cycleAfter s.store.lastGranted = earlier ++ r :: later) (hearlier : ∀ q ∈ earlier, s.store.waiting q = none)
    (hr : s.store.waiting r = some a) (hdiag : a.isDiag = false) :
    releasePort s =
      { s with store := { s.store.setWaiting r none with
          lastGranted := r, busy := some { requester := r, access := a, wanted := true, found := none } } } := by
  have hother := (isDiag_eq_false_iff a).mp hdiag
  rw [releasePort_granted hcycle hearlier hr (grant_busy _ _ _ hother), grant_access _ _ _ hother]
  cases r <;> rfl

theorem waiting_granted (st : FrameStore) (r : Requester) (busy : Option PortUse) :
    ({ st.setWaiting r none with lastGranted := r, busy := busy } : FrameStore).waiting r = none ∧
      ∀ q, q ≠ r → ({ st.setWaiting r none with lastGranted := r, busy := busy } : FrameStore).waiting q = st.waiting q := by
  have hsame (q : Requester) : ({ st.setWaiting r none with lastGranted := r, busy := busy } : FrameStore).waiting q =
      (st.setWaiting r none).waiting q := by cases q <;> rfl
  exact ⟨(hsame r).trans (waiting_setWaiting _ _ _), fun q hq => (hsame q).trans (waiting_setWaiting_ne hq _ _)⟩

/-! ## Turns of the cycle -/

/-- The requesters that are granted before `r` after a grant to `last`. -/
def ahead (last r : Requester) : List Requester := (cycleAfter last).takeWhile (· != r)

theorem eq_ahead {last r : Requester} {earlier later : List Requester} (h : cycleAfter last = earlier ++ r :: later) :
    earlier = ahead last r := by
  have hnodup : (cycleAfter last).Nodup := by cases last <;> decide
  rw [h, List.nodup_append] at hnodup
  obtain ⟨-, -, hdisjoint⟩ := hnodup
  have hne : ∀ q ∈ earlier, (q != r) = true := fun q hq => by simpa using hdisjoint q hq r List.mem_cons_self
  rw [ahead, h, List.takeWhile_append_of_pos hne, List.takeWhile_cons_of_neg (by simp), List.append_nil]

/-- A grant to a requester ahead brings `r` nearer, and at most three are ahead. -/
theorem ahead_shortened (last r : Requester) :
    ∀ g ∈ ahead last r, (ahead g r).length < (ahead last r).length ∧ (ahead last r).length ≤ 3 := by
  cases last <;> cases r <;> decide

/-! ## The diagnostic block read (R134) -/

theorem diagTarget_frameBlock {data : List Byte} (h : byteAt data 0 = 1) :
    diagTarget data = some (.frameBlock (byteAt data 1) (byteAt data 2) (byteAt data 3)) := by
  simp only [diagTarget, h]

theorem frameBlockRequest_outside {slot lamp block : Nat} (h : 5 < slot ∨ 1 < lamp ∨ 4 < block) :
    frameBlockRequest slot lamp block = none := by
  unfold frameBlockRequest
  split
  · rfl
  next x hx =>
    have hlamp : lamp ≤ 1 := by
      match lamp, hx with
      | 0, _ => omega
      | 1, _ => omega
    exact dif_neg (by omega)

theorem frameBlockRequest_inside (i : Fin 6) (x : Side) (k : Fin 5) :
    frameBlockRequest i.val (if x = .left then 0 else 1) k.val = some (.diagRead i x k) := by
  cases x <;> simp [frameBlockRequest, sideOfCode]

section FrameBlock

variable {data : List Byte} {s : State} (hlen : data.length = 4) (hbus : s.cPort.busOff = false) (hfree : s.reader = none)
  (hcode : byteAt data 0 = 1)
include hlen hbus hfree hcode

theorem gives_diagReadFrameBlock_outside (h : 5 < byteAt data 1 ∨ 1 < byteAt data 2 ∨ 4 < byteAt data 3) :
    Gives (.diagReadFrameBlock data) s (answerRead data .empty s) := by
  show execDiagReadFrameBlock data s = _
  rw [execDiagReadFrameBlock, acceptRead_known hlen hbus _ hfree (diagTarget_frameBlock hcode)]
  simp only [frameBlockRequest_outside h]
  rfl

theorem gives_diagReadFrameBlock_inside {i : Fin 6} {x : Side} {k : Fin 5} (hi : byteAt data 1 = i.val)
    (hx : byteAt data 2 = if x = .left then 0 else 1) (hk : byteAt data 3 = k.val) :
    Gives (.diagReadFrameBlock data) s (requestPort .diag (.diagRead i x k) { s with reader := some data }) := by
  show execDiagReadFrameBlock data s = _
  rw [execDiagReadFrameBlock, acceptRead_known hlen hbus _ hfree (diagTarget_frameBlock hcode)]
  simp only [hi, hx, hk, frameBlockRequest_inside]
  rfl

end FrameBlock

/-- The reply's fields that a grant finds in a STORED slot (Table 7-4). -/
def slotFound (sl : FrameSlot) (q : Nat) (x : Side) (k : Fin 5) : FrameBlockData :=
  { newest := sl.newest, holders := sl.holders, sequence := q, values := sl.memory.block x k }

section DiagGrant

variable {s : State} {i : Fin 6} (x : Side) (k : Fin 5)

/-- A diagnostic read at an idle port where nobody waits, of a STORED slot. -/
theorem requestPort_diag_stored {q : Nat} (hbusy : s.store.busy = none) (hnone : ∀ r, s.store.waiting r = none)
    (hstored : (s.store.slot i).state = .stored) (hq : (s.store.slot i).sequence = some q) :
    requestPort .diag (.diagRead i x k) s =
      { s with store := { s.store with
          lastGranted := .diag
          busy := some
            { requester := .diag, access := .diagRead i x k, wanted := true
              found := some (slotFound (s.store.slot i) q x k) } } } := by
  have hnext : (s.store.setWaiting .diag (some (.diagRead i x k))).nextGrant = some (.diag, .diagRead i x k) :=
    nextGrant_only (waiting_setWaiting _ _ _) fun r hr => (waiting_setWaiting_ne hr _ _).trans (hnone r)
  have hgrant := grant_stored .diag (s := { s with store := s.store.setWaiting .diag (some (.diagRead i x k)) }) x k hstored
  have hdiag : s.store.waitDiag = none := hnone .diag
  rw [requestPort, arbitrate_granted (by simpa using hbusy) hnext (by rw [hgrant]; rfl), hgrant, setWaiting_setWaiting,
    setWaiting_self (show s.store.waiting .diag = none from hdiag)]
  simp only [FrameStore.slot, setWaiting_slots]
  simp only [FrameStore.slot] at hq
  rw [hq]
  rfl

/-- As `requestPort_diag_stored`, of another slot: the reply is EMPTY, and the port stays free. -/
theorem requestPort_diag_empty (hbusy : s.store.busy = none) (hnone : ∀ r, s.store.waiting r = none)
    (hstored : (s.store.slot i).state ≠ .stored) :
    requestPort .diag (.diagRead i x k) s =
      placeReply .empty { s with store := { s.store with lastGranted := .diag } } := by
  have hnext : (s.store.setWaiting .diag (some (.diagRead i x k))).nextGrant = some (.diag, .diagRead i x k) :=
    nextGrant_only (waiting_setWaiting _ _ _) fun r hr => (waiting_setWaiting_ne hr _ _).trans (hnone r)
  have hgrant := grant_empty .diag (s := { s with store := s.store.setWaiting .diag (some (.diagRead i x k)) }) x k hstored
  have hdiag : s.store.waiting .diag = none := hnone .diag
  have hidle : ∀ r, (placeReply .empty { s with store := { s.store with lastGranted := .diag } }).store.waiting r = none :=
    fun r => (waiting_withLast _ _ r).trans (hnone r)
  have hfirst := grantNext_some { s with store := s.store.setWaiting .diag (some (.diagRead i x k)) } .diag _ (by simpa using hbusy) hnext
  rw [requestPort, arbitrate, hfirst, hgrant, setWaiting_setWaiting, setWaiting_self hdiag]
  exact grantNext_none _ ((nextGrant_eq_none _).mpr hidle)

variable {earlier later : List Requester} (hcycle : cycleAfter s.store.lastGranted = earlier ++ .diag :: later)
  (hearlier : ∀ q ∈ earlier, s.store.waiting q = none) (hwait : s.store.waitDiag = some (.diagRead i x k))
include hcycle hearlier hwait

/-- DIAG's turn at a release, for a STORED slot. -/
theorem releasePort_diag_stored (hstored : (s.store.slot i).state = .stored) :
    releasePort s =
      { s with store := { s.store with
          waitDiag := none, lastGranted := .diag
          busy := some
            { requester := .diag, access := .diagRead i x k, wanted := true
              found := some (slotFound (s.store.slot i) ((s.store.slot i).sequence.getD 0) x k) } } } := by
  have hgrant := grant_stored .diag (s := { s with store := { s.store with busy := none } }) x k hstored
  rw [releasePort_granted hcycle hearlier hwait (by rw [hgrant]; rfl), hgrant]
  rfl

/-- The state with DIAG's turn answered EMPTY, at the port as it stands. -/
def answeredEmpty (s : State) : State :=
  placeReply .empty { s with store := { s.store with waitDiag := none, lastGranted := .diag } }

/-- DIAG's turn at a release, for another slot: the next turn follows at once. -/
theorem releasePort_diag_empty (hstored : (s.store.slot i).state ≠ .stored) :
    releasePort s = grantNext { answeredEmpty s with store := { (answeredEmpty s).store with busy := none } } := by
  have hgrant := grant_empty .diag (s := { s with store := { s.store with busy := none } }) x k hstored
  have hnext : ({ s.store with busy := none } : FrameStore).nextGrant = some (.diag, .diagRead i x k) :=
    nextGrant_of_cycle _ earlier later _ _ hcycle (fun q hq => (waiting_withBusy _ _ q).trans (hearlier q hq)) hwait
  rw [releasePort, arbitrate, grantNext_some { s with store := { s.store with busy := none } } .diag (.diagRead i x k) rfl hnext, hgrant]
  rfl

end DiagGrant

theorem waiting_answeredEmpty (s : State) (r : Requester) :
    (answeredEmpty s).store.waiting r = if r = .diag then none else s.store.waiting r := by
  cases r <;> rfl

theorem gives_diagBlockReadDone {s : State} {w : PortUse} {d : FrameBlockData} (hbusy : s.store.busy = some w)
    (hr : w.requester = .diag) (hfound : w.found = some d) :
    Gives .diagBlockReadDone s (releasePort (placeReply (.frameBlock d) s)) := by
  have haccess : s.store.accessOf .diag = some w := accessOf_eq_some.mpr ⟨hbusy, hr⟩
  show execDiagBlockReadDone s = _
  simp only [execDiagBlockReadDone, haccess, hfound, foundReply]
  rfl

end Sys2Proof.Machine

namespace Sys2Proof.Proofs

open Sys2Proof.Machine

/-- Settles O36: the arbiter's grants, and the turns of the cycle. -/
theorem portGrantsInCycleOrder : Obligations.PortGrantsInCycleOrder := by
  refine ⟨⟨rfl, rfl, rfl, rfl⟩, fun r a s u hu => ?touches, fun r a s hbusy hnone hdiag => ?idle, fun s hnone => ?free,
    fun s earlier later r a hcycle hearlier hr hdiag => ?turn, fun s earlier later i x k hcycle hearlier hwait hstored => ?diag,
    fun last r g earlier later hcycle hg => ?nearer⟩
  case touches =>
    rcases hu with rfl | rfl
    · exact sameButPort_requestPort r a s
    · exact sameButPort_releasePort s
  case idle =>
    rw [requestPort_idle a hbusy (fun q _ => hnone q) hdiag, setWaiting_self (hnone r)]
  case free => rw [releasePort_idle hnone]
  case turn =>
    rw [releasePort_granted_other hcycle hearlier hr hdiag]
    exact ⟨rfl, rfl, waiting_granted _ _ _⟩
  case diag =>
    rw [releasePort_diag_stored x k hcycle hearlier hwait hstored]
    refine ⟨rfl, rfl, rfl, fun q hq => ?_⟩
    cases q with
    | commit | linkL | linkR => rfl
    | diag => exact absurd rfl hq
  case nearer =>
    obtain ⟨earlier', later', hcycle'⟩ := List.append_of_mem (mem_cycleAfter g r)
    have hshort := ahead_shortened last r g (eq_ahead hcycle ▸ hg)
    rw [← eq_ahead hcycle, ← eq_ahead hcycle'] at hshort
    exact ⟨earlier', later', hcycle', hshort⟩

/-- Settles O49: the read's target, its grant at once or in its turn, and its completion. -/
theorem frameBlockReadIsJudgedAtItsGrant : Obligations.FrameBlockReadIsJudgedAtItsGrant := by
  refine ⟨⟨rfl, rfl, rfl, rfl⟩, fun data s hlen hbus hfree hcode => ⟨fun hout => ?outside, fun i x k hi hx hk => ?inside⟩,
    fun s earlier later i x k read hwait hread hcycle hearlier => ⟨fun q hstored hq => ?stored, fun hstored hothers => ?empty,
      fun hstored hothers => ?alone⟩, fun s w d read hbusy hr hfound hread => ?done⟩
  case outside => exact gives_diagReadFrameBlock_outside hlen hbus hfree hcode hout
  case inside =>
    have hgives := gives_diagReadFrameBlock_inside hlen hbus hfree hcode hi hx hk
    refine ⟨fun hbusy => ?_, fun hidle hnone => ⟨fun q hstored hq => ?_, fun hstored => ?_⟩⟩
    · rwa [requestPort_busy .diag _ (by exact hbusy)] at hgives
    · rwa [requestPort_diag_stored (s := { s with reader := some data }) x k hidle hnone hstored hq] at hgives
    · rwa [requestPort_diag_empty (s := { s with reader := some data }) x k hidle hnone hstored] at hgives
  case stored =>
    rw [releasePort_diag_stored x k hcycle hearlier hwait hstored, hq]
    rfl
  case empty =>
    have hanswered : answeredEmpty s = { s with
        store := { s.store with waitDiag := none, lastGranted := .diag }
        cPort := { s.cPort with diagReply := some { read := read, data := .empty } } } := by
      simp only [answeredEmpty, placeReply, hread, Option.getD_some]
    rw [releasePort_diag_empty x k hcycle hearlier hwait hstored, ← hanswered]
    refine (arbitrate_once _ fun r a hr => (isDiag_eq_false_iff a).mp ?_).symm
    rw [waiting_withBusy, waiting_answeredEmpty] at hr
    split at hr
    · cases hr
    next hne => exact hothers r hne a hr
  case alone =>
    have hnone : ∀ r, ({ (answeredEmpty s).store with busy := none } : FrameStore).waiting r = none := by
      intro r
      rw [waiting_withBusy, waiting_answeredEmpty]
      split
      · rfl
      next hne => exact hothers r hne
    have hend := grantNext_none { answeredEmpty s with store := { (answeredEmpty s).store with busy := none } }
      ((nextGrant_eq_none _).mpr hnone)
    rw [releasePort_diag_empty x k hcycle hearlier hwait hstored, hend]
    simp only [answeredEmpty, placeReply, hread, Option.getD_some]
  case done =>
    have hgives := gives_diagBlockReadDone hbusy hr hfound
    simpa only [placeReply, hread, Option.getD_some] using hgives

end Sys2Proof.Proofs
end

section
/-! SUPPORT. The lamp links' operations (Chapter 8): what each leaves in the link's own record, in the other link's, and in the slot
table, in the order of the model's definitions. -/

namespace Sys2Proof.Machine

/-! ## A link's record -/

@[simp] theorem link_withStore (s : State) (st : FrameStore) (y : Side) : ({ s with store := st } : State).link y = s.link y := by
  cases y <;> rfl

theorem setLink_setLink (x : Side) (l l' : LampLink) (s : State) : (s.setLink x l).setLink x l' = s.setLink x l' := by
  cases x <;> rfl

theorem setLink_self (x : Side) (s : State) : s.setLink x (s.link x) = s := by
  cases x <;> rfl

@[simp] theorem link_requestPort (r : Requester) (a : PortAccess) (s : State) (y : Side) : (requestPort r a s).link y = s.link y := by
  cases y <;> simp

@[simp] theorem link_releasePort (s : State) (y : Side) : (releasePort s).link y = s.link y := by
  cases y <;> simp

@[simp] theorem link_raiseFault (f : FaultReport) (s : State) (y : Side) : (raiseFault f s).link y = s.link y := by
  cases y <;> simp

@[simp] theorem link_raiseNotice (k : NoticeKind) (s : State) (y : Side) : (raiseNotice k s).link y = s.link y := by
  cases y <;> simp

@[simp] theorem send_transfer (l : LampLink) (bytes : List Byte) : (l.send bytes).transfer = l.transfer := by
  unfold LampLink.send
  split <;> rfl

@[simp] theorem send_applied (l : LampLink) (bytes : List Byte) : (l.send bytes).applied = l.applied := by
  unfold LampLink.send
  split <;> rfl

/-- The slot and sequence a link holds under each role (R142). -/
def LampLink.held (l : LampLink) : LinkRole → Option AppliedHold
  | .applied => l.applied
  | .incoming => l.transfer.map fun t => { slot := t.slot, sequence := t.sequence }

theorem held_congr {l l' : LampLink} (happlied : l'.applied = l.applied)
    (htransfer : l'.transfer.map (fun t => (⟨t.slot, t.sequence⟩ : AppliedHold)) =
      l.transfer.map fun t => (⟨t.slot, t.sequence⟩ : AppliedHold)) : l'.held = l.held := by
  funext r
  cases r with
  | applied => exact happlied
  | incoming => exact htransfer

theorem held_send (l : LampLink) (bytes : List Byte) : (l.send bytes).held = l.held :=
  held_congr (send_applied l bytes) (by rw [send_transfer])

/-! ## Sending and attempts (R146) -/

theorem sendOnLink_link (x : Side) (bytes : List Byte) (s : State) : (sendOnLink x bytes s).link x = (s.link x).send bytes := by
  simp [sendOnLink]

theorem sendOnLink_link_ne {x y : Side} (h : y ≠ x) (bytes : List Byte) (s : State) :
    (sendOnLink x bytes s).link y = s.link y := link_setLink_ne h _ _

theorem dropAttempt_store (x : Side) (s : State) : (dropAttempt x s).store = s.store.withdrawLink x := by
  simp [dropAttempt]

theorem dropAttempt_link (x : Side) (s : State) : (dropAttempt x s).link x = { s.link x with waiting := none } := by
  simp [dropAttempt]

theorem dropAttempt_link_ne {x y : Side} (h : y ≠ x) (s : State) : (dropAttempt x s).link y = s.link y := by
  rw [dropAttempt, link_setLink_ne h, link_withStore]

/-- The link record at the start of an attempt: the reply timer runs from 0, and no frame waits for the wire. -/
def LampLink.ready (t : Transfer) (l : LampLink) : LampLink :=
  { l with transfer := some { t with replyTimer := some 0 }, waiting := none }

/-- The state at the start of an attempt, before it asks for its read or sends END. -/
def attemptReady (x : Side) (t : Transfer) (s : State) : State :=
  ({ s with store := s.store.withdrawLink x } : State).setLink x ((s.link x).ready t)

theorem attemptReady_store (x : Side) (t : Transfer) (s : State) : (attemptReady x t s).store = s.store.withdrawLink x := by
  simp [attemptReady]

theorem attemptReady_link (x : Side) (t : Transfer) (s : State) : (attemptReady x t s).link x = (s.link x).ready t := by
  simp [attemptReady]

theorem attemptReady_link_ne {x y : Side} (h : y ≠ x) (t : Transfer) (s : State) : (attemptReady x t s).link y = s.link y := by
  rw [attemptReady, link_setLink_ne h, link_withStore]

theorem beginAttempt_eq (x : Side) (t : Transfer) (s : State) :
    beginAttempt x t s =
      match t.step with
      | .compare => attemptReady x t s
      | .header => requestPort (linkRequester x) (.headerRead t.slot) (attemptReady x t s)
      | .block k => requestPort (linkRequester x) (.blockRead t.slot x k) (attemptReady x t s)
      | .finish => sendOnLink x (endFrame t) (attemptReady x t s) := by
  have hset : (dropAttempt x s).setLink x
      { (dropAttempt x s).link x with transfer := some { t with replyTimer := some 0 } } = attemptReady x t s := by
    rw [dropAttempt_link, dropAttempt, setLink_setLink]
    rfl
  obtain ⟨tag, slot, sequence, map, same, step, retries, timer⟩ := t
  cases step with
  | compare => exact hset
  | header => exact congrArg (requestPort (linkRequester x) (.headerRead slot)) hset
  | block k => exact congrArg (requestPort (linkRequester x) (.blockRead slot x k)) hset
  | finish => exact congrArg (sendOnLink x (endFrame _)) hset

theorem beginAttempt_link (x : Side) (t : Transfer) (s : State) :
    (beginAttempt x t s).link x =
      if t.step = .finish then ((s.link x).ready t).send (endFrame t) else (s.link x).ready t := by
  rw [beginAttempt_eq]
  cases hstep : t.step <;> simp [attemptReady_link, sendOnLink_link]

theorem beginAttempt_link_ne {x y : Side} (h : y ≠ x) (t : Transfer) (s : State) : (beginAttempt x t s).link y = s.link y := by
  rw [beginAttempt_eq]
  cases t.step <;> simp [attemptReady_link_ne h, sendOnLink_link_ne h]

@[simp] theorem withdrawLink_slots (st : FrameStore) (x : Side) : (st.withdrawLink x).slots = st.slots := by
  rw [withdrawLink_eq]
  exact setWaiting_slots st (linkRequester x) none

theorem beginAttempt_slots (x : Side) (t : Transfer) (s : State) : (beginAttempt x t s).store.slots = s.store.slots := by
  rw [beginAttempt_eq]
  cases t.step <;> simp [attemptReady_store, sendOnLink]

theorem held_ready (l : LampLink) (t : Transfer) (r : LinkRole) :
    (l.ready t).held r = if r = .incoming then some ⟨t.slot, t.sequence⟩ else l.held r := by
  cases r <;> rfl

theorem beginAttempt_held (x : Side) (t : Transfer) (s : State) (r : LinkRole) :
    ((beginAttempt x t s).link x).held r = if r = .incoming then some ⟨t.slot, t.sequence⟩ else (s.link x).held r := by
  rw [beginAttempt_link]
  split <;> simp only [held_send, held_ready]

/-! ## Ends of a transfer (R137, R149, R150, R152) -/

theorem abandonTransfer_link_ne {x y : Side} (h : y ≠ x) (s : State) : (abandonTransfer x s).link y = s.link y := by
  rw [abandonTransfer, link_setLink_ne h, link_withStore, dropAttempt_link_ne h]

theorem completeTransfer_store (x : Side) (t : Transfer) (s : State) :
    (completeTransfer x t s).store = (s.store.withdrawLink x).promote x := by
  simp [completeTransfer, dropAttempt_store]

theorem completeTransfer_link (x : Side) (t : Transfer) (s : State) :
    (completeTransfer x t s).link x =
      { s.link x with transfer := none, applied := some { slot := t.slot, sequence := t.sequence }, waiting := none } := by
  simp [completeTransfer, dropAttempt_link]

theorem completeTransfer_link_ne {x y : Side} (h : y ≠ x) (t : Transfer) (s : State) :
    (completeTransfer x t s).link y = s.link y := by
  rw [completeTransfer, link_setLink_ne h, link_withStore, dropAttempt_link_ne h]

theorem linkLost_link (x : Side) (s : State) :
    (linkLost x s).link x =
      { s.link x with
        state := .down, statusTimer := none, temp := none, supplyOk := none, dead := [], deadLimitFlag := false
        transfer := none, applied := none, waiting := none } := by
  simp [linkLost, abandonTransfer_link]

theorem linkLost_link_ne {x y : Side} (h : y ≠ x) (s : State) : (linkLost x s).link y = s.link y := by
  rw [linkLost, link_setLink_ne h, link_withStore, abandonTransfer_link_ne h]

theorem slot_linkLost (x : Side) (s : State) (i : Fin 6) :
    (linkLost x s).store.slot i = dropRole x .applied (dropRole x .incoming (s.store.slot i)) := by
  simp only [linkLost, setLink_store, FrameStore.releaseApplied, slot_mapSlots, slot_abandonTransfer]

/-! ## FETCH (R143, R144) -/

/-- The transfer that a FETCH starts, before the first row of Table 8-3 that applies (R143). -/
def newTransfer (l : LampLink) (sl : FrameSlot) (n : Fin 6) : Transfer :=
  { tag := (l.tagCounter + 1) % 16, slot := n, sequence := sl.sequence.getD 0, map := allBlocks, same := false, step := .header
    retries := 0, replyTimer := none }

/-- The state with the newest slot taken as incoming under the next tag, before its first step begins. -/
def takenState (x : Side) (n : Fin 6) (s : State) : State :=
  ({ s with store := (s.store.withdrawLink x).take x n } : State).setLink x
    { s.link x with tagCounter := ((s.link x).tagCounter + 1) % 16, waiting := none }

theorem takenState_store (x : Side) (n : Fin 6) (s : State) :
    (takenState x n s).store = (s.store.withdrawLink x).take x n := by
  simp [takenState]

theorem takenState_link (x : Side) (n : Fin 6) (s : State) :
    (takenState x n s).link x =
      { s.link x with tagCounter := ((s.link x).tagCounter + 1) % 16, waiting := none } := by
  simp [takenState]

theorem takenState_link_ne {x y : Side} (h : y ≠ x) (n : Fin 6) (s : State) : (takenState x n s).link y = s.link y := by
  rw [takenState, link_setLink_ne h, link_withStore]

/-- The state with COMPARE begun, before its first compare is asked for (R144). -/
def compareReady (x : Side) (n : Fin 6) (s : State) : State :=
  (takenState x n s).setLink x
    { (takenState x n s).link x with
      transfer := some { newTransfer (s.link x) (s.store.slot n) n with map := [], step := .compare } }

/-- A FETCH taken, by the rows of Table 8-3. -/
theorem startTransfer_eq (x : Side) (n : Fin 6) (applied : Nat) (full absent : Bool) (s : State) :
    startTransfer x n applied full absent s =
      let t := newTransfer (s.link x) (s.store.slot n) n
      match agreedBase (s.link x) applied full absent with
      | none => beginAttempt x t (takenState x n s)
      | some a =>
        if a.slot = n then beginAttempt x { t with map := [], same := true } (takenState x n s)
        else requestPort (linkRequester x) (.compare n a.slot x 0) (compareReady x n s) := by
  have htaken : ({ dropAttempt x s with store := (dropAttempt x s).store.take x n } : State).setLink x
      { (dropAttempt x s).link x with tagCounter := (((dropAttempt x s).link x).tagCounter + 1) % 16 } = takenState x n s := by
    rw [dropAttempt_link, dropAttempt_store]
    cases x <;> rfl
  have hbase : agreedBase ((dropAttempt x s).link x) applied full absent = agreedBase (s.link x) applied full absent := by
    rw [dropAttempt_link]
    rfl
  have htag : ((dropAttempt x s).link x).tagCounter = (s.link x).tagCounter := by rw [dropAttempt_link]
  unfold startTransfer
  simp only [htaken, hbase]
  simp only [htag]
  rfl

theorem compareReady_link (x : Side) (n : Fin 6) (s : State) :
    (compareReady x n s).link x =
      { s.link x with
        tagCounter := ((s.link x).tagCounter + 1) % 16, waiting := none
        transfer := some { newTransfer (s.link x) (s.store.slot n) n with map := [], step := .compare } } := by
  simp [compareReady, takenState_link]

theorem compareReady_link_ne {x y : Side} (h : y ≠ x) (n : Fin 6) (s : State) : (compareReady x n s).link y = s.link y := by
  rw [compareReady, link_setLink_ne h, takenState_link_ne h]

theorem compareReady_store (x : Side) (n : Fin 6) (s : State) :
    (compareReady x n s).store = (s.store.withdrawLink x).take x n := by
  simp [compareReady, takenState_store]

theorem slot_take (st : FrameStore) (x : Side) (n i : Fin 6) :
    (st.take x n).slot i =
      if i = n then
        { dropRole x .incoming (st.slot n) with holders := (dropRole x .incoming (st.slot n)).holders.put x .incoming true }
      else dropRole x .incoming (st.slot i) := by
  unfold FrameStore.take
  split
  next h => rw [h, slot_setSlot_self, FrameStore.releaseIncoming, slot_mapSlots]
  next h => rw [slot_setSlot_ne h, FrameStore.releaseIncoming, slot_mapSlots]

theorem slot_withSlots {st st' : FrameStore} (h : st'.slots = st.slots) (i : Fin 6) : st'.slot i = st.slot i := by
  rw [FrameStore.slot, FrameStore.slot, h]

/-- What a FETCH leaves in the slot table. -/
theorem slot_startTransfer (x : Side) (n : Fin 6) (applied : Nat) (full absent : Bool) (s : State) (i : Fin 6) :
    (startTransfer x n applied full absent s).store.slot i = (s.store.take x n).slot i := by
  have htaken : ((s.store.withdrawLink x).take x n).slot i = (s.store.take x n).slot i := by
    rw [slot_take, slot_take, withdrawLink_slot, withdrawLink_slot]
  rw [startTransfer_eq]
  dsimp only
  split
  · rw [slot_withSlots (beginAttempt_slots _ _ _), takenState_store, htaken]
  · split
    · rw [slot_withSlots (beginAttempt_slots _ _ _), takenState_store, htaken]
    · rw [slot_withSlots (requestPort_slots _ _ _), compareReady_store, htaken]

theorem startTransfer_link_ne {x y : Side} (h : y ≠ x) (n : Fin 6) (applied : Nat) (full absent : Bool) (s : State) :
    (startTransfer x n applied full absent s).link y = s.link y := by
  rw [startTransfer_eq]
  dsimp only
  split
  · rw [beginAttempt_link_ne h, takenState_link_ne h]
  · split
    · rw [beginAttempt_link_ne h, takenState_link_ne h]
    · rw [link_requestPort, compareReady_link_ne h]

theorem startTransfer_held (x : Side) (n : Fin 6) (applied : Nat) (full absent : Bool) (s : State) (r : LinkRole) :
    ((startTransfer x n applied full absent s).link x).held r =
      if r = .incoming then some ⟨n, (s.store.slot n).sequence.getD 0⟩ else (s.link x).held r := by
  have htaken (q : LinkRole) : ((takenState x n s).link x).held q = (s.link x).held q := by
    rw [takenState_link]
    cases q <;> rfl
  rw [startTransfer_eq]
  dsimp only
  split
  · rw [beginAttempt_held, htaken]
    rfl
  · split
    · rw [beginAttempt_held, htaken]
      rfl
    · rw [link_requestPort, compareReady_link]
      cases r <;> rfl

/-! ## Port accesses of a link (R144) -/

theorem afterCompare_link_ne {x y : Side} (h : y ≠ x) (a b : Fin 6) (t : Transfer) (s : State) (k : Fin 5) :
    (afterCompare x a b t s k).link y = s.link y := by
  unfold afterCompare
  split
  · exact link_requestPort _ _ _ _
  · exact link_requestPort _ _ _ _
  · exact link_requestPort _ _ _ _
  · exact link_requestPort _ _ _ _
  · exact beginAttempt_link_ne h _ _

theorem afterCompare_slots (x : Side) (a b : Fin 6) (t : Transfer) (s : State) (k : Fin 5) :
    (afterCompare x a b t s k).store.slots = s.store.slots := by
  unfold afterCompare
  split
  · exact requestPort_slots _ _ _
  · exact requestPort_slots _ _ _
  · exact requestPort_slots _ _ _
  · exact requestPort_slots _ _ _
  · exact beginAttempt_slots _ _ _

/-- With the record of the link that of `t`, the compares hold what `t` holds. -/
theorem afterCompare_held (x : Side) (a b : Fin 6) (t : Transfer) (s : State) (k : Fin 5)
    (ht : (s.link x).transfer = some t) : ((afterCompare x a b t s k).link x).held = (s.link x).held := by
  unfold afterCompare
  split
  · rw [link_requestPort]
  · rw [link_requestPort]
  · rw [link_requestPort]
  · rw [link_requestPort]
  · funext r
    rw [beginAttempt_held]
    cases r with
    | applied => rfl
    | incoming => simp [LampLink.held, ht]

theorem noteCompare_slot (st : FrameStore) (a b : Fin 6) (lamp : Side) (k : Fin 5) (t : Transfer) :
    (noteCompare st a b lamp k t).slot = t.slot ∧ (noteCompare st a b lamp k t).sequence = t.sequence := by
  unfold noteCompare
  split <;> exact ⟨rfl, rfl⟩

theorem afterNote_link (x : Side) (a b : Fin 6) (lamp : Side) (k : Fin 5) (t : Transfer) (s : State) :
    (afterNote x a b lamp k t s).link x = { s.link x with transfer := some (noteCompare s.store a b lamp k t) } := by
  simp [afterNote]

theorem afterNote_link_ne {x y : Side} (h : y ≠ x) (a b : Fin 6) (lamp : Side) (k : Fin 5) (t : Transfer) (s : State) :
    (afterNote x a b lamp k t s).link y = s.link y := link_setLink_ne h _ _

/-! ## Replies (R147 to R150) -/

theorem takeAck_finish {x : Side} {t : Transfer} (s : State) (h : t.step = .finish) : takeAck x t s = completeTransfer x t s := by
  simp only [takeAck, h]

theorem takeAck_step {x : Side} {t : Transfer} (s : State) (h : t.step ≠ .finish) :
    takeAck x t s = beginAttempt x { t with step := nextStep t.map t.step } s := by
  unfold takeAck
  split
  next hfinish => exact absurd hfinish h
  next => rfl

theorem demandResend_again {x : Side} {t : Transfer} (s : State) (h : t.retries < 3) :
    demandResend x t s = beginAttempt x { t with retries := t.retries + 1 } s := if_pos h

theorem demandResend_failed {x : Side} {t : Transfer} (s : State) (h : ¬t.retries < 3) :
    demandResend x t s = failTransfer x t s := if_neg h

/-! ## Lamp status (R136, R139, R140) -/

/-- The link record after a LAMP_STATE. -/
def LampLink.reported (l : LampLink) (limit : Nat) (temp : Int) (ok : Bool) (entries : List Nat) : LampLink :=
  { l with
    state := .up, statusTimer := some 0, temp := some (clamp (-40) 150 temp), supplyOk := some ok, dead := deadSet entries
    deadLimitFlag := decide (limit ≤ (deadSet entries).length) }

theorem checkDeadLimit_link (x : Side) (limit : Nat) (s : State) :
    (checkDeadLimit x limit s).link x = { s.link x with deadLimitFlag := decide (limit ≤ (s.link x).dead.length) } := by
  unfold checkDeadLimit
  dsimp only
  split
  next hlimit =>
    split
    next hflag =>
      rw [decide_eq_true hlimit, ← hflag]
    next => simp [hlimit]
  next hlimit => simp [hlimit]

theorem checkDeadLimit_link_ne {x y : Side} (h : y ≠ x) (limit : Nat) (s : State) : (checkDeadLimit x limit s).link y = s.link y := by
  unfold checkDeadLimit
  dsimp only
  split
  · split
    · rfl
    · rw [link_raiseFault, link_setLink_ne h]
  · exact link_setLink_ne h _ _

theorem takeLampState_link (x : Side) (temp : Int) (ok : Bool) (entries : List Nat) (s : State) :
    (takeLampState x temp ok entries s).link x =
      (s.link x).reported ((activeCal s).nat .deadLimit) temp ok entries := by
  unfold takeLampState
  dsimp only
  rw [checkDeadLimit_link]
  split <;> simp [LampLink.reported]

theorem takeLampState_link_ne {x y : Side} (h : y ≠ x) (temp : Int) (ok : Bool) (entries : List Nat) (s : State) :
    (takeLampState x temp ok entries s).link y = s.link y := by
  unfold takeLampState
  dsimp only
  rw [checkDeadLimit_link_ne h]
  split
  · rw [link_raiseNotice, link_setLink_ne h]
  · exact link_setLink_ne h _ _

end Sys2Proof.Machine
end

section
/-! SUPPORT. The frame store's bookkeeping through every step (7.2 to 7.4, R124 to R130, R142, R153): what each operation on the slot
table keeps, why no step stops, and then the proof of the statement. -/

namespace Sys2Proof.Machine

/-! ## Holder sets -/

theorem has_put (h : HolderSet) (x y : Side) (r q : LinkRole) (b : Bool) :
    (h.put x r b).has y q = if y = x ∧ q = r then b else h.has y q := by
  cases x <;> cases r <;> cases y <;> cases q <;> rfl

theorem eq_noHolders_iff (h : HolderSet) : h = noHolders ↔ ∀ y q, h.has y q = false := by
  refine ⟨fun heq y q => ?_, fun hnone => ?_⟩
  · subst heq
    cases y <;> cases q <;> rfl
  · obtain ⟨la, li, ra, ri⟩ := h
    have hla : la = false := hnone .left .applied
    have hli : li = false := hnone .left .incoming
    have hra : ra = false := hnone .right .applied
    have hri : ri = false := hnone .right .incoming
    rw [hla, hli, hra, hri]
    rfl

theorem put_self {h : HolderSet} {x : Side} {r : LinkRole} {b : Bool} (hb : h.has x r = b) : h.put x r b = h := by
  subst hb
  cases x <;> cases r <;> rfl

theorem ne_noHolders {h : HolderSet} {y : Side} {q : LinkRole} (hhas : h.has y q = true) : h ≠ noHolders := by
  intro heq
  rw [(eq_noHolders_iff h).mp heq y q] at hhas
  cases hhas

/-! ## One slot -/

section Slot

variable {sl : FrameSlot}

theorem stateOk_stored (h : sl.state = .stored) :
    sl.StateOk ↔ sl.sequence.isSome = true ∧ (sl.newest = true ∨ sl.holders ≠ noHolders) := by
  simp only [FrameSlot.StateOk, h]

theorem stateOk_unused (h : sl.state ≠ .stored) :
    sl.StateOk ↔ sl.newest = false ∧ sl.holders = noHolders ∧ sl.sequence = none := by
  unfold FrameSlot.StateOk
  split
  next hstored => exact absurd hstored h
  next => rfl

theorem FrameSlot.StateOk.stored_of_newest (h : sl.StateOk) (hn : sl.newest = true) : sl.state = .stored := by
  by_contra hne
  rw [((stateOk_unused hne).mp h).1] at hn
  cases hn

theorem FrameSlot.StateOk.stored_of_has (h : sl.StateOk) {y : Side} {q : LinkRole} (hhas : sl.holders.has y q = true) :
    sl.state = .stored := by
  by_contra hne
  exact ne_noHolders hhas ((stateOk_unused hne).mp h).2.1

theorem FrameSlot.StateOk.withMemory (h : sl.StateOk) (m : FrameMemory) : ({ sl with memory := m } : FrameSlot).StateOk := h

/-- A STORED slot with other holders is in order while it is newest or held. -/
theorem FrameSlot.StateOk.withHolders (h : sl.StateOk) (hstored : sl.state = .stored) {holders : HolderSet}
    (hused : sl.newest = true ∨ holders ≠ noHolders) : ({ sl with holders := holders } : FrameSlot).StateOk :=
  (stateOk_stored (sl := { sl with holders := holders }) hstored).mpr ⟨((stateOk_stored hstored).mp h).1, hused⟩

theorem stateOk_limpSlot : limpSlot.StateOk := ⟨rfl, .inl rfl⟩

theorem stateOk_freeSlot (m : FrameMemory) : (freeSlot m).StateOk := ⟨rfl, rfl, rfl⟩

/-! A role's release frees the slot or leaves all but its holders. -/

theorem freeIfUnused_newest (sl : FrameSlot) : (freeIfUnused sl).newest = sl.newest := by
  unfold freeIfUnused
  split <;> rfl

theorem freeIfUnused_holders (sl : FrameSlot) : (freeIfUnused sl).holders = sl.holders := by
  unfold freeIfUnused
  split <;> rfl

theorem freeIfUnused_used (h : sl.newest = true ∨ sl.holders ≠ noHolders) : freeIfUnused sl = sl :=
  if_neg fun ⟨_, hn, hh⟩ => h.elim (fun ht => by rw [hn] at ht; cases ht) fun hne => hne hh

theorem freeIfUnused_building (sl : FrameSlot) : (freeIfUnused sl).state = .building ↔ sl.state = .building := by
  unfold freeIfUnused
  split
  next h => simp [h.1]
  next => rfl

theorem stateOk_freeIfUnused (hstored : sl.state = .stored) (hq : sl.sequence.isSome = true) : (freeIfUnused sl).StateOk := by
  by_cases hused : sl.newest = true ∨ sl.holders ≠ noHolders
  · rw [freeIfUnused_used hused]
    exact (stateOk_stored hstored).mpr ⟨hq, hused⟩
  · have hunused : sl.newest = false ∧ sl.holders = noHolders := by simpa using hused
    rw [freeIfUnused, if_pos ⟨hstored, hunused⟩]
    exact ⟨hunused.1, hunused.2, rfl⟩

theorem dropRole_newest (x : Side) (r : LinkRole) (sl : FrameSlot) : (dropRole x r sl).newest = sl.newest := by
  unfold dropRole
  split
  · exact freeIfUnused_newest _
  · rfl

theorem dropRole_holders (x : Side) (r : LinkRole) (sl : FrameSlot) :
    (dropRole x r sl).holders = sl.holders.put x r false := by
  unfold dropRole
  split
  · exact freeIfUnused_holders _
  next h => exact (put_self (Bool.eq_false_iff.mpr h)).symm

theorem dropRole_building (x : Side) (r : LinkRole) (sl : FrameSlot) :
    (dropRole x r sl).state = .building ↔ sl.state = .building := by
  unfold dropRole
  split
  · exact freeIfUnused_building _
  · rfl

/-- A slot that stays newest or held keeps its sequence. -/
theorem dropRole_sequence (x : Side) (r : LinkRole) (sl : FrameSlot)
    (h : sl.newest = true ∨ ∃ y q, (dropRole x r sl).holders.has y q = true) : (dropRole x r sl).sequence = sl.sequence := by
  have hused : sl.newest = true ∨ sl.holders.put x r false ≠ noHolders := by
    refine h.imp_right fun ⟨y, q, hhas⟩ => ?_
    rw [dropRole_holders] at hhas
    exact ne_noHolders hhas
  unfold dropRole
  split
  · rw [freeIfUnused_used hused]
  · rfl

theorem FrameSlot.StateOk.dropRole (h : sl.StateOk) (x : Side) (r : LinkRole) : (dropRole x r sl).StateOk := by
  unfold Machine.dropRole
  split
  next hhas =>
    have hstored := h.stored_of_has hhas
    exact stateOk_freeIfUnused hstored ((stateOk_stored hstored).mp h).1
  next => exact h

/-! A promote moves X-incoming to X-applied. -/

theorem promoteSlot_newest (x : Side) (sl : FrameSlot) : (promoteSlot x sl).newest = sl.newest := by
  unfold promoteSlot
  split
  · rfl
  · exact dropRole_newest _ _ _

theorem promoteSlot_has (x : Side) (sl : FrameSlot) (y : Side) (q : LinkRole) :
    (promoteSlot x sl).holders.has y q =
      if y = x then (if q = .applied then sl.holders.has x .incoming else false) else sl.holders.has y q := by
  unfold promoteSlot
  split
  next h =>
    rw [has_put, has_put]
    by_cases hy : y = x
    · cases q <;> simp [hy, h]
    · simp [hy]
  next h =>
    rw [dropRole_holders, has_put]
    have hfalse := Bool.eq_false_iff.mpr h
    by_cases hy : y = x
    · subst hy
      cases q <;> simp [hfalse]
    · simp [hy]

theorem promoteSlot_building (hok : sl.StateOk) (x : Side) : (promoteSlot x sl).state = .building ↔ sl.state = .building := by
  unfold promoteSlot
  split
  next h => simp [hok.stored_of_has h]
  next => exact dropRole_building _ _ _

theorem promoteSlot_sequence (x : Side) (sl : FrameSlot)
    (h : sl.newest = true ∨ ∃ y q, (promoteSlot x sl).holders.has y q = true) : (promoteSlot x sl).sequence = sl.sequence := by
  unfold promoteSlot at h ⊢
  split at h <;> split
  · rfl
  · contradiction
  · contradiction
  · exact dropRole_sequence _ _ _ h

theorem FrameSlot.StateOk.promoteSlot (h : sl.StateOk) (x : Side) : (promoteSlot x sl).StateOk := by
  unfold Machine.promoteSlot
  split
  next hhas =>
    have hstored := h.stored_of_has hhas
    refine h.withHolders hstored (.inr (ne_noHolders (y := x) (q := .applied) ?_))
    rw [has_put, if_pos ⟨rfl, rfl⟩]
  next => exact h.dropRole x .applied

/-! The newest mark's loss at a commit. -/

theorem loseNewest_newest (sl : FrameSlot) : (loseNewest sl).newest = false := by
  unfold loseNewest
  split
  · exact freeIfUnused_newest _
  next h => exact Bool.eq_false_iff.mpr h

theorem loseNewest_holders (sl : FrameSlot) : (loseNewest sl).holders = sl.holders := by
  unfold loseNewest
  split
  · exact freeIfUnused_holders _
  · rfl

theorem loseNewest_building (sl : FrameSlot) : (loseNewest sl).state = .building ↔ sl.state = .building := by
  unfold loseNewest
  split
  · exact freeIfUnused_building _
  · rfl

theorem loseNewest_sequence {y : Side} {q : LinkRole} (h : sl.holders.has y q = true) : (loseNewest sl).sequence = sl.sequence := by
  unfold loseNewest
  split
  · rw [freeIfUnused_used (sl := { sl with newest := false }) (.inr (ne_noHolders h))]
  · rfl

theorem FrameSlot.StateOk.loseNewest (h : sl.StateOk) : (loseNewest sl).StateOk := by
  unfold Machine.loseNewest
  split
  next hn =>
    have hstored := h.stored_of_newest hn
    exact stateOk_freeIfUnused hstored ((stateOk_stored hstored).mp h).1
  next => exact h

end Slot

/-! ## The slot table with its holders -/

/-- What a link's record says of one of its roles is what the slot table says. -/
def RoleOk (f : Fin 6 → FrameSlot) (x : Side) (r : LinkRole) (hold : Option AppliedHold) : Prop :=
  (∀ i : Fin 6, (f i).holders.has x r = true ↔ hold.map (·.slot) = some i) ∧
    ∀ a ∈ hold, (f a.slot).sequence = some a.sequence

/-- The slot table, with the slot of the build in flight and with what the links hold. -/
def SlotsInv (f : Fin 6 → FrameSlot) (building : Option (Fin 6)) (hold : Side → LinkRole → Option AppliedHold) : Prop :=
  (∃ i, (f i).newest = true) ∧ (∀ i j, (f i).newest = true → (f j).newest = true → i = j) ∧ (∀ i, (f i).StateOk) ∧
    (∀ i, (f i).state = .building ↔ building = some i) ∧ ∀ x r, RoleOk f x r (hold x r)

/-- What each link holds. -/
def State.holds (s : State) : Side → LinkRole → Option AppliedHold := fun x => (s.link x).held

/-- The slot of the build in flight. -/
def State.buildSlot (s : State) : Option (Fin 6) := s.builder.phase.build.map (·.slot)

theorem holdsAgree_iff (s : State) (x : Side) :
    HoldsAgree s x ↔ ∀ r, RoleOk s.store.slot x r (s.holds x r) := by
  have hmap : (s.holds x .incoming).map (·.slot) = (s.link x).transfer.map (·.slot) := by
    simp [State.holds, LampLink.held, Function.comp_def]
  constructor
  · rintro ⟨happlied, hincoming, hsequence, hnext⟩ r
    cases r with
    | applied => exact ⟨happlied, hsequence⟩
    | incoming =>
      refine ⟨fun i => (hincoming i).trans (by rw [hmap]), fun a ha => ?_⟩
      obtain ⟨t, ht, rfl⟩ := Option.mem_map.mp ha
      exact hnext t ht
  · intro h
    obtain ⟨happlied, hsequence⟩ := h .applied
    obtain ⟨hincoming, hnext⟩ := h .incoming
    refine ⟨happlied, fun i => (hincoming i).trans (by rw [hmap]), hsequence, fun t ht => ?_⟩
    exact hnext _ (Option.mem_map_of_mem _ ht)

theorem storeInv_iff (s : State) : StoreInv s ↔ SlotsInv s.store.slot s.buildSlot s.holds := by
  unfold StoreInv SlotsInv
  rw [holdsAgree_iff, holdsAgree_iff]
  refine and_congr_right fun _ => and_congr_right fun _ => and_congr_right fun _ => and_congr_right fun _ => ?_
  refine ⟨fun ⟨hl, hr⟩ x => ?_, fun h => ⟨h .left, h .right⟩⟩
  cases x with
  | left => exact hl
  | right => exact hr

/-- The holds with one role of one link replaced. -/
def setHold (hold : Side → LinkRole → Option AppliedHold) (x : Side) (r : LinkRole) (a : Option AppliedHold) :
    Side → LinkRole → Option AppliedHold :=
  fun y q => if y = x ∧ q = r then a else hold y q

section SlotsInv

variable {f g : Fin 6 → FrameSlot} {building : Option (Fin 6)} {hold : Side → LinkRole → Option AppliedHold}

/-- A slot that a role holds by the record has the role in its holder set. -/
theorem RoleOk.has {x : Side} {r : LinkRole} {o : Option AppliedHold} (h : RoleOk f x r o) {a : AppliedHold} (ha : o = some a) :
    (f a.slot).holders.has x r = true := (h.1 a.slot).mpr (by rw [ha]; rfl)

/-- A change of slots that keeps the newest marks and the BUILDING slots, and the roles as `hold'` says. -/
theorem SlotsInv.change (h : SlotsInv f building hold) {hold' : Side → LinkRole → Option AppliedHold}
    (hnewest : ∀ i, (g i).newest = (f i).newest) (hok : ∀ i, (g i).StateOk)
    (hbuilding : ∀ i, (g i).state = .building ↔ (f i).state = .building) (hroles : ∀ x r, RoleOk g x r (hold' x r)) :
    SlotsInv g building hold' := by
  obtain ⟨⟨n, hn⟩, hunique, -, hbuild, -⟩ := h
  refine ⟨⟨n, (hnewest n).trans hn⟩, fun i j hi hj => ?_, hok, fun i => (hbuilding i).trans (hbuild i), hroles⟩
  exact hunique i j ((hnewest i).symm.trans hi) ((hnewest j).symm.trans hj)

/-- A role released in every slot (R129). -/
theorem SlotsInv.dropRole (h : SlotsInv f building hold) (x : Side) (r : LinkRole) :
    SlotsInv (fun i => dropRole x r (f i)) building (setHold hold x r none) := by
  obtain ⟨-, -, hok, -, hroles⟩ := id h
  refine h.change (fun i => dropRole_newest _ _ _) (fun i => (hok i).dropRole x r) (fun i => dropRole_building _ _ _) fun y q => ?_
  by_cases hyq : y = x ∧ q = r
  · refine ⟨fun i => ?_, fun a ha => ?_⟩
    · rw [dropRole_holders, has_put, if_pos hyq, setHold, if_pos hyq]
      simp
    · rw [setHold, if_pos hyq] at ha
      cases ha
  · have hhas (i : Fin 6) : (Machine.dropRole x r (f i)).holders.has y q = (f i).holders.has y q := by
      rw [dropRole_holders, has_put, if_neg hyq]
    have hsame : setHold hold x r none y q = hold y q := if_neg hyq
    rw [hsame]
    refine ⟨fun i => by rw [hhas]; exact (hroles y q).1 i, fun a ha => ?_⟩
    rw [dropRole_sequence _ _ _ (.inr ⟨y, q, (hhas _).trans ((hroles y q).has ha)⟩)]
    exact (hroles y q).2 a ha

/-- A promote: X-applied is what X-incoming was (R129). -/
theorem SlotsInv.promote (h : SlotsInv f building hold) (x : Side) :
    SlotsInv (fun i => promoteSlot x (f i)) building
      (setHold (setHold hold x .applied (hold x .incoming)) x .incoming none) := by
  obtain ⟨-, -, hok, -, hroles⟩ := id h
  refine h.change (fun i => promoteSlot_newest _ _) (fun i => (hok i).promoteSlot x) (fun i => promoteSlot_building (hok i) x)
    fun y q => ?_
  have hkept {y' : Side} {q' : LinkRole} {o : Option AppliedHold} (hsource : RoleOk f y' q' o)
      (hhas : ∀ i, (promoteSlot x (f i)).holders.has y q = (f i).holders.has y' q') :
      RoleOk (fun i => promoteSlot x (f i)) y q o := by
    refine ⟨fun i => by rw [hhas]; exact hsource.1 i, fun a ha => ?_⟩
    rw [promoteSlot_sequence _ _ (.inr ⟨y, q, (hhas _).trans (hsource.has ha)⟩)]
    exact hsource.2 a ha
  by_cases hy : y = x
  · subst hy
    cases q with
    | applied => exact hkept (by simpa [setHold] using hroles y .incoming) fun i => by simp [promoteSlot_has]
    | incoming =>
      refine ⟨fun i => ?_, fun a ha => ?_⟩
      · simp [promoteSlot_has, setHold]
      · simp [setHold] at ha
  · exact hkept (by simpa [setHold, hy] using hroles y q) fun i => by simp [promoteSlot_has, hy]

/-- The newest slot taken as X-incoming (R128). -/
theorem SlotsInv.take {st : FrameStore} (h : SlotsInv st.slot building hold) (x : Side) {n : Fin 6}
    (hn : (st.slot n).newest = true) :
    SlotsInv (st.take x n).slot building
      (setHold hold x .incoming (some ⟨n, (st.slot n).sequence.getD 0⟩)) := by
  obtain ⟨-, -, hok, -, hroles⟩ := id h
  obtain ⟨-, -, hdok, -, hdroles⟩ := h.dropRole x .incoming
  have hstored := (hok n).stored_of_newest hn
  obtain ⟨q, hq⟩ := Option.isSome_iff_exists.mp ((stateOk_stored hstored).mp (hok n)).1
  have hsequence : (Machine.dropRole x .incoming (st.slot n)).sequence = some q :=
    (dropRole_sequence _ _ _ (.inl hn)).trans hq
  have hstored' : (Machine.dropRole x .incoming (st.slot n)).state = .stored :=
    (hdok n).stored_of_newest ((dropRole_newest _ _ _).trans hn)
  have htakenSequence (i : Fin 6) :
      ((st.take x n).slot i).sequence = (Machine.dropRole x .incoming (st.slot i)).sequence := by
    rw [slot_take]
    split
    next hi => rw [hi]
    next => rfl
  have hhas (i : Fin 6) (y : Side) (r : LinkRole) :
      ((st.take x n).slot i).holders.has y r = if y = x ∧ r = .incoming then decide (i = n) else (st.slot i).holders.has y r := by
    rw [slot_take]
    split
    next hi =>
      rw [has_put, dropRole_holders, has_put, hi]
      split <;> simp
    next hi =>
      rw [dropRole_holders, has_put]
      split
      · simp [hi]
      · rfl
  refine h.change (fun i => ?_) (fun i => ?_) (fun i => ?_) fun y r => ?_
  · rw [slot_take]
    split
    next hi => exact hi ▸ dropRole_newest _ _ _
    next => exact dropRole_newest _ _ _
  · rw [slot_take]
    split
    · exact (hdok n).withHolders hstored' (.inl ((dropRole_newest _ _ _).trans hn))
    · exact (hok i).dropRole x .incoming
  · rw [slot_take]
    split
    next hi =>
      subst hi
      exact dropRole_building _ _ _
    next => exact dropRole_building _ _ _
  · by_cases hyr : y = x ∧ r = .incoming
    · refine ⟨fun i => ?_, fun a ha => ?_⟩
      · rw [hhas, if_pos hyr, setHold, if_pos hyr]
        simp [eq_comm]
      · rw [setHold, if_pos hyr] at ha
        cases ha
        rw [htakenSequence, hsequence, hq]
        rfl
    · have hsame : setHold hold x .incoming (some ⟨n, (st.slot n).sequence.getD 0⟩) y r = hold y r := if_neg hyr
      rw [hsame]
      refine ⟨fun i => by rw [hhas, if_neg hyr]; exact (hroles y r).1 i, fun a ha => ?_⟩
      rw [htakenSequence]
      have hdropped : setHold hold x .incoming none y r = hold y r := if_neg hyr
      exact (hdropped ▸ hdroles y r).2 a ha

/-- A FREE slot claimed for a build (R126). -/
theorem SlotsInv.claim {st : FrameStore} (h : SlotsInv st.slot none hold) {slot : Fin 6} (hfree : (st.slot slot).state = .free) :
    SlotsInv (st.claim slot).slot (some slot) hold := by
  obtain ⟨⟨n, hn⟩, hunique, hok, hbuild, hroles⟩ := h
  have hget (i : Fin 6) : (st.claim slot).slot i = if i = slot then { st.slot slot with state := .building } else st.slot i := by
    unfold FrameStore.claim
    split
    next hi => rw [hi, slot_setSlot_self]
    next hi => rw [slot_setSlot_ne hi]
  have hnewest (i : Fin 6) : ((st.claim slot).slot i).newest = (st.slot i).newest := by
    rw [hget]
    split
    next hi => rw [hi]
    next => rfl
  have hholders (i : Fin 6) : ((st.claim slot).slot i).holders = (st.slot i).holders := by
    rw [hget]
    split
    next hi => rw [hi]
    next => rfl
  have hsequence (i : Fin 6) : ((st.claim slot).slot i).sequence = (st.slot i).sequence := by
    rw [hget]
    split
    next hi => rw [hi]
    next => rfl
  refine ⟨⟨n, (hnewest n).trans hn⟩, fun i j hi hj => hunique i j ((hnewest i).symm.trans hi) ((hnewest j).symm.trans hj),
    fun i => ?_, fun i => ?_, fun x r => ?_⟩
  · rw [hget]
    split
    · have hunused := (stateOk_unused (by simp [hfree])).mp (hok slot)
      exact hunused
    · exact hok i
  · rw [hget]
    split
    next hi => simp [hi]
    next hi =>
      rw [hbuild i]
      simp [Ne.symm hi]
  · exact ⟨fun i => by rw [hholders]; exact (hroles x r).1 i, fun a ha => by rw [hsequence]; exact (hroles x r).2 a ha⟩

/-- The build's slot committed as the newest (R127). -/
theorem SlotsInv.commit {st : FrameStore} {b : Build} (h : SlotsInv st.slot (some b.slot) hold) (fr : Frame) :
    SlotsInv (st.afterHeaderWrite b fr).slot none hold := by
  obtain ⟨-, -, hok, hbuild, hroles⟩ := h
  have hbuilding : (st.slot b.slot).state = .building := (hbuild b.slot).mpr rfl
  obtain ⟨-, hunheld, -⟩ := (stateOk_unused (by simp [hbuilding])).mp (hok b.slot)
  have hheld {x : Side} {r : LinkRole} {i : Fin 6} (hhas : (st.slot i).holders.has x r = true) : i ≠ b.slot := by
    rintro rfl
    exact ne_noHolders hhas hunheld
  have hnewest (i : Fin 6) : ((st.afterHeaderWrite b fr).slot i).newest = true ↔ i = b.slot := by
    rw [slot_afterHeaderWrite]
    split
    next hi => simp [hi]
    next hi => simp [hi, loseNewest_newest]
  have hholders (i : Fin 6) : ((st.afterHeaderWrite b fr).slot i).holders = (st.slot i).holders := by
    rw [slot_afterHeaderWrite]
    split
    next hi => rw [hi, hunheld]
    next => exact loseNewest_holders _
  refine ⟨⟨b.slot, (hnewest _).mpr rfl⟩, fun i j hi hj => ((hnewest i).mp hi).trans ((hnewest j).mp hj).symm, fun i => ?_,
    fun i => ?_, fun x r => ⟨fun i => by rw [hholders]; exact (hroles x r).1 i, fun a ha => ?_⟩⟩
  · rw [slot_afterHeaderWrite]
    split
    · exact (stateOk_stored rfl).mpr ⟨rfl, .inl rfl⟩
    · exact (hok i).loseNewest
  · rw [slot_afterHeaderWrite]
    split
    · simp
    next hi =>
      rw [loseNewest_building, hbuild i]
      simp [Ne.symm hi]
  · have hhas := (hroles x r).has ha
    rw [slot_afterHeaderWrite, if_neg (hheld hhas), loseNewest_sequence hhas]
    exact (hroles x r).2 a ha

/-- The LIMP frame installed: slot 0 is newest, and nothing is held (R130). -/
theorem slotsInv_limp {memory : Fin 6 → FrameMemory} (hg : ∀ i, g i = if i = 0 then limpSlot else freeSlot (memory i)) :
    SlotsInv g none fun _ _ => none := by
  have hnewest (i : Fin 6) : (g i).newest = true ↔ i = 0 := by
    rw [hg]
    split <;> simp_all [limpSlot, freeSlot]
  refine ⟨⟨0, (hnewest 0).mpr rfl⟩, fun i j hi hj => ((hnewest i).mp hi).trans ((hnewest j).mp hj).symm, fun i => ?_, fun i => ?_,
    fun x r => ⟨fun i => ?_, fun a ha => by cases ha⟩⟩
  · rw [hg]
    split
    · exact stateOk_limpSlot
    · exact stateOk_freeSlot _
  · rw [hg]
    split <;> simp [limpSlot, freeSlot]
  · have hnone : (g i).holders = noHolders := by
      rw [hg]
      split <;> rfl
    simp [(eq_noHolders_iff _).mp hnone x r]

end SlotsInv

/-! ## Through every change -/

theorem StoreInv.slots {s : State} (h : StoreInv s) : SlotsInv s.store.slot s.buildSlot s.holds := (storeInv_iff s).mp h

theorem storeInv_of {s : State} {f : Fin 6 → FrameSlot} {building : Option (Fin 6)} {hold : Side → LinkRole → Option AppliedHold}
    (h : SlotsInv f building hold) (hf : ∀ i, s.store.slot i = f i) (hbuild : s.buildSlot = building)
    (hhold : ∀ x r, s.holds x r = hold x r) : StoreInv s := by
  obtain rfl : s.store.slot = f := funext hf
  obtain rfl : s.holds = hold := funext fun x => funext fun r => hhold x r
  exact (storeInv_iff s).mpr (hbuild ▸ h)

theorem StoreInv.of_same {s u : State} (h : StoreInv s) (hslots : u.store.slots = s.store.slots) (hbuild : u.buildSlot = s.buildSlot)
    (hheld : ∀ x, (u.link x).held = (s.link x).held) : StoreInv u :=
  storeInv_of h.slots (slot_withSlots hslots) hbuild fun x r => congrFun (hheld x) r

/-- The holds of a state whose one link alone changed. -/
theorem holds_of_link {s u : State} {x : Side} {hold : Side → LinkRole → Option AppliedHold}
    (hself : ∀ r, (u.link x).held r = hold x r) (hother : ∀ y, y ≠ x → u.link y = s.link y)
    (hkept : ∀ y, y ≠ x → ∀ r, hold y r = s.holds y r) (y : Side) (r : LinkRole) : u.holds y r = hold y r := by
  by_cases hy : y = x
  · subst hy
    exact hself r
  · rw [hkept y hy]
    exact congrArg (fun l : LampLink => l.held r) (hother y hy)

theorem buildSlot_of_builder {s u : State} (h : u.builder = s.builder) : u.buildSlot = s.buildSlot := by
  rw [State.buildSlot, State.buildSlot, h]

theorem StoreInv.abandonTransfer {s : State} (h : StoreInv s) (x : Side) : StoreInv (abandonTransfer x s) := by
  refine storeInv_of (h.slots.dropRole x .incoming) (slot_abandonTransfer x s) (buildSlot_of_builder (by simp))
    (holds_of_link (s := s) (x := x) (fun r => ?_) (fun y hy => abandonTransfer_link_ne hy s) fun y hy r => if_neg fun hc => hy hc.1)
  rw [abandonTransfer_link]
  cases r <;> simp [setHold, State.holds, LampLink.held]

theorem StoreInv.linkLost {s : State} (h : StoreInv s) (x : Side) : StoreInv (linkLost x s) := by
  refine storeInv_of ((h.slots.dropRole x .incoming).dropRole x .applied) (slot_linkLost x s) (buildSlot_of_builder (by simp))
    (holds_of_link (s := s) (x := x) (fun r => ?_) (fun y hy => linkLost_link_ne hy s) fun y hy r => ?_)
  · rw [linkLost_link]
    cases r <;> simp [setHold, LampLink.held]
  · simp [setHold, hy]

theorem StoreInv.completeTransfer {s : State} (h : StoreInv s) {x : Side} {t : Transfer} (ht : (s.link x).transfer = some t) :
    StoreInv (completeTransfer x t s) := by
  have hslot (i : Fin 6) : (Machine.completeTransfer x t s).store.slot i = promoteSlot x (s.store.slot i) := by
    rw [completeTransfer_store, FrameStore.promote, slot_mapSlots, withdrawLink_slot]
  refine storeInv_of (h.slots.promote x) hslot (buildSlot_of_builder (by simp))
    (holds_of_link (s := s) (x := x) (fun r => ?_) (fun y hy => completeTransfer_link_ne hy t s) fun y hy r => ?_)
  · rw [completeTransfer_link]
    cases r <;> simp [setHold, State.holds, LampLink.held, ht]
  · simp [setHold, hy]

theorem StoreInv.startTransfer {s : State} (h : StoreInv s) (x : Side) {n : Fin 6} (hn : s.store.newest = some n) (applied : Nat)
    (full absent : Bool) : StoreInv (startTransfer x n applied full absent s) := by
  have hnewest : (s.store.slot n).newest = true := List.find?_some (p := fun i => (s.store.slot i).newest) hn
  refine storeInv_of (h.slots.take x hnewest) (slot_startTransfer x n applied full absent s) (buildSlot_of_builder (by simp))
    (holds_of_link (s := s) (x := x) (fun r => ?_) (fun y hy => startTransfer_link_ne hy n applied full absent s) fun y hy r => ?_)
  · rw [startTransfer_held]
    cases r <;> simp [setHold, State.holds]
  · simp [setHold, hy]

/-- A change of one link's record that keeps what it holds. -/
theorem StoreInv.keepsHeld {s u : State} (h : StoreInv s) (x : Side) (hslots : u.store.slots = s.store.slots)
    (hbuilder : u.builder = s.builder) (hheld : (u.link x).held = (s.link x).held) (hother : ∀ y, y ≠ x → u.link y = s.link y) :
    StoreInv u := by
  refine h.of_same hslots (buildSlot_of_builder hbuilder) fun y => ?_
  by_cases hy : y = x
  · exact hy ▸ hheld
  · rw [hother y hy]

/-- An attempt of a step of the link's own transfer holds what the transfer holds. -/
theorem StoreInv.beginAttempt {s : State} (h : StoreInv s) {x : Side} {t t' : Transfer} (ht : (s.link x).transfer = some t)
    (hslot : t'.slot = t.slot) (hsequence : t'.sequence = t.sequence) : StoreInv (beginAttempt x t' s) := by
  refine h.keepsHeld x (beginAttempt_slots _ _ _) (by simp) (funext fun r => ?_) fun y hy => beginAttempt_link_ne hy _ _
  rw [beginAttempt_held]
  cases r with
  | applied => rfl
  | incoming => simp [LampLink.held, ht, hslot, hsequence]

theorem LinkChange.storeInv {x : Side} {s u : State} (h : LinkChange x s u) (hs : StoreInv s) : StoreInv u := by
  cases h with
  | discarded w => exact hs.of_same (by simp) (buildSlot_of_builder (by simp)) fun y => by simp
  | headerSent t w i bytes =>
    refine hs.keepsHeld x (by simp) (by simp) ?_ fun y hy => by simp [sendOnLink_link_ne hy]
    rw [link_releasePort, sendOnLink_link, held_send]
  | blockSent t w i lamp k bytes =>
    refine hs.keepsHeld x (by simp) (by simp) ?_ fun y hy => by simp [sendOnLink_link_ne hy]
    rw [link_releasePort, sendOnLink_link, held_send]
  | compared t w a b lamp k hbusy hr ha hw ht =>
    obtain ⟨hslot, hsequence⟩ := noteCompare_slot s.store a b lamp k t
    refine hs.keepsHeld x ?_ (by simp [afterNote]) ?_ fun y hy => ?_
    · rw [afterCompare_slots]
      simp [afterNote]
    · rw [afterCompare_held]
      · rw [link_releasePort, afterNote_link]
        exact held_congr rfl (by simp [ht, hslot, hsequence])
      · rw [link_releasePort, afterNote_link]
    · rw [afterCompare_link_ne hy, link_releasePort, afterNote_link_ne hy]
  | wireFreed =>
    refine hs.keepsHeld x (by simp) (by simp) ?_ fun y hy => link_setLink_ne hy _ _
    rw [link_setLink]
    rfl
  | lampState bytes temp ok entries =>
    refine hs.keepsHeld x (by simp) (by simp) ?_ fun y hy => takeLampState_link_ne hy temp ok entries s
    rw [takeLampState_link]
    rfl
  | lost =>
    exact (hs.linkLost x).of_same (by simp) (buildSlot_of_builder (by simp)) fun y => by simp
  | fetched n applied full absent hup hn => exact hs.startTransfer x hn applied full absent
  | acknowledged t hup ht hstep =>
    by_cases hfinish : t.step = .finish
    · rw [takeAck_finish s hfinish]
      exact hs.completeTransfer ht
    · rw [takeAck_step s hfinish]
      exact hs.beginAttempt ht rfl rfl
  | resent t ht =>
    by_cases hagain : t.retries < 3
    · rw [demandResend_again s hagain]
      exact hs.beginAttempt ht rfl rfl
    · rw [demandResend_failed s hagain]
      exact (hs.abandonTransfer x).of_same (by simp [failTransfer]) (buildSlot_of_builder (by simp [failTransfer]))
        fun y => by simp [failTransfer]
  | quitted t ht => exact hs.abandonTransfer x

theorem startBuild_buildSlot (slot : Fin 6) (s : State) : (startBuild slot s).buildSlot = some slot := by
  obtain ⟨snapshot, copy, h, -⟩ := startBuild_builder slot s
  rw [State.buildSlot, h]
  rfl

theorem state_of_lowestFree {st : FrameStore} {slot : Fin 6} (h : st.lowestFree = some slot) : (st.slot slot).state = .free :=
  beq_iff_eq.mp (List.find?_some (p := fun i => (st.slot i).state == .free) h)

theorem afterCommit_store (b : Build) (f : Frame) (s : State) : (afterCommit b f s).store = s.store.afterHeaderWrite b f := rfl

theorem afterCommit_builder (b : Build) (f : Frame) (s : State) :
    (afterCommit b f s).builder = { s.builder with phase := .idle, mirror := frameToMirror f } := rfl

theorem slot_afterBlockWrite (b : Build) (f : Frame) (n : Nat) (lamp : Side) (k : Fin 5) (s : State) (i : Fin 6) :
    (afterBlockWrite b f n lamp k s).store.slot i =
      if i = b.slot then
        { s.store.slot b.slot with memory := (s.store.slot b.slot).memory.writeBlock lamp k (blockValues (f.values lamp) k) }
      else s.store.slot i := slot_writeMemory _ _ _ _

/-- A write to frame memory leaves the bookkeeping. -/
theorem SlotsInv.memory {f g : Fin 6 → FrameSlot} {building : Option (Fin 6)} {hold : Side → LinkRole → Option AppliedHold}
    (h : SlotsInv f building hold) (hg : ∀ i, ∃ m, g i = { f i with memory := m }) : SlotsInv g building hold := by
  obtain ⟨-, -, hok, -, hroles⟩ := id h
  refine h.change (fun i => ?_) (fun i => ?_) (fun i => ?_) fun x r => ⟨fun i => ?_, fun a ha => ?_⟩
  · obtain ⟨m, hm⟩ := hg i
    rw [hm]
  · obtain ⟨m, hm⟩ := hg i
    rw [hm]
    exact (hok i).withMemory m
  · obtain ⟨m, hm⟩ := hg i
    rw [hm]
  · obtain ⟨m, hm⟩ := hg i
    rw [hm]
    exact (hroles x r).1 i
  · obtain ⟨m, hm⟩ := hg a.slot
    rw [hm]
    exact (hroles x r).2 a ha

theorem BuildChange.storeInv {s u : State} (h : BuildChange s u) (hs : StoreInv s) : StoreInv u := by
  have hlinks (y : Side) : u.link y = s.link y := by
    cases y with
    | left => exact h.frame.2.2.2.2.2.2.2.2.1
    | right => exact h.frame.2.2.2.2.2.2.2.2.2.1
  have hholds (y : Side) (r : LinkRole) : u.holds y r = s.holds y r := congrArg (fun l : LampLink => l.held r) (hlinks y)
  cases h with
  | overrun b => exact hs.of_same (by simp [restartTimer]) (by simp [State.buildSlot, restartTimer]) fun y => by rw [hlinks]
  | started slot ht hidle hfree =>
    have hnone : s.buildSlot = none := by rw [State.buildSlot, hidle, Option.map_none]
    have hslots : SlotsInv s.store.slot none s.holds := hnone ▸ hs.slots
    refine storeInv_of (hslots.claim (state_of_lowestFree hfree)) (fun i => ?_) (startBuild_buildSlot slot _) hholds
    rw [startBuild_store]
    rfl
  | computed b hphase =>
    refine hs.of_same (by simp) ?_ fun y => by rw [hlinks]
    simp [State.buildSlot, afterCompute_builder, BuilderPhase.build, hphase]
  | blockWritten b f n w lamp k hphase =>
    have hslots := hs.slots.memory (g := (afterBlockWrite b f n lamp k s).store.slot) fun i => by
      rw [slot_afterBlockWrite]
      split
      next hi => exact ⟨_, by rw [hi]⟩
      next => exact ⟨_, rfl⟩
    refine storeInv_of hslots (slot_withSlots (by simp)) ?_ hholds
    simp [State.buildSlot, afterBlockWrite, BuilderPhase.build, hphase]
  | committed b f n w hphase =>
    have hsome : s.buildSlot = some b.slot := by rw [State.buildSlot, hphase]; rfl
    have hslots : SlotsInv s.store.slot (some b.slot) s.holds := hsome ▸ hs.slots
    refine storeInv_of (hslots.commit f) (fun i => ?_) ?_ hholds
    · rw [slot_withSlots (releasePort_slots _), afterCommit_store]
    · simp [State.buildSlot, afterCommit_builder, BuilderPhase.build]

/-- A state with the LIMP frame installed. -/
theorem storeInv_limp {s u : State} (hslots : u.store.slots = s.store.installLimp.slots) (hidle : u.builder.phase = .idle)
    (hlinks : ∀ x, (u.link x).transfer = none ∧ (u.link x).applied = none) : StoreInv u := by
  refine storeInv_of (slotsInv_limp (memory := fun i => (s.store.slot i).memory) fun i => slot_installLimp s.store i)
    (slot_withSlots hslots) (by rw [State.buildSlot, hidle]; rfl) fun x r => ?_
  obtain ⟨htransfer, happlied⟩ := hlinks x
  cases r with
  | applied => exact happlied
  | incoming => simp [State.holds, LampLink.held, htransfer]

theorem storeInv_enterConfig (s : State) : StoreInv (enterConfig s) := by
  refine storeInv_limp (s := s) ?_ (by simp [enterConfig]) fun x => ?_
  · simp only [enterConfig, arbitrate_slots]
    rfl
  · cases x <;> simp [enterConfig, installLimp, LampLink.afterInstall]

theorem storeInv_resetBlocks (s : State) : StoreInv (resetBlocks s) := by
  refine storeInv_limp (s := s) ?_ (by simp [resetBlocks]) fun x => ?_
  · simp only [resetBlocks, arbitrate_slots]
    rfl
  · cases x <;> simp [resetBlocks, installLimp, LampLink.afterInstall]

theorem StoreInv.reportChange {s : State} (h : StoreInv s) : StoreInv (reportChange s) :=
  h.of_same (by simp) (buildSlot_of_builder (by simp)) fun x => by cases x <;> simp

theorem OperatingChange.storeInv {c : Instr} {s u : State} (h : OperatingChange s c u) (hs : StoreInv s) : StoreInv u := by
  cases h with
  | written _ p v => exact hs.of_same (by simp) (buildSlot_of_builder (by simp)) fun x => by cases x <;> simp
  | ran data =>
    have hran : StoreInv (enterRun s) := hs.of_same rfl rfl fun x => by cases x <;> rfl
    exact hran.reportChange
  | configured data => exact (storeInv_enterConfig s).reportChange
  | restarted data => exact storeInv_resetBlocks s
  | restartedAnew data => exact (storeInv_resetBlocks s).reportChange

theorem Change.storeInv {c : Instr} {s u : State} (h : Change c s u) (hs : StoreInv s) : StoreInv u := by
  cases h with
  | unchanged => exact hs
  | fault f => exact hs.of_same (by simp) (buildSlot_of_builder (by simp)) fun x => by simp
  | tracks h =>
    exact hs.of_same (by simp [h.frame]) (buildSlot_of_builder (by simp [h.frame])) fun x => by cases x <;> simp [h.frame]
  | driving h =>
    exact hs.of_same (by simp [h.frame]) (buildSlot_of_builder (by simp [h.frame])) fun x => by cases x <;> simp [h.frame]
  | cache h =>
    exact hs.of_same (by simp [h.frame]) (buildSlot_of_builder (by simp [h.frame])) fun x => by cases x <;> simp [h.frame]
  | build h => exact h.storeInv hs
  | link x h => exact h.storeInv hs
  | diag h =>
    exact hs.of_same (by simp [h.frame]) (buildSlot_of_builder (by simp [h.frame])) fun x => by cases x <;> simp [h.frame]
  | operating h => exact h.storeInv hs
  | port h =>
    exact hs.of_same (by simp [h.frame]) (buildSlot_of_builder (by simp [h.frame])) fun x => by cases x <;> simp [h.frame]

theorem held_advanceLink (l : LampLink) : (advanceLink l).held = l.held :=
  held_congr rfl (by simp [advanceLink, Function.comp_def])

theorem storeInv_tick {s : State} (h : StoreInv s) : StoreInv (tick s) := by
  refine h.of_same rfl rfl fun x => ?_
  cases x with
  | left => exact held_advanceLink s.linkL
  | right => exact held_advanceLink s.linkR

theorem storeInv_afterPowerOnReset (s : State) : StoreInv (afterPowerOnReset s) := by
  refine storeInv_of (slotsInv_limp (memory := fun _ => frameToMemory limpFrame) fun i => slot_resetStore i) (fun _ => rfl) rfl
    fun x r => ?_
  cases x <;> cases r <;> rfl

/-! ## No step stops (R126, R128) -/

/-- The slots that are newest or held: the newest one, and one for each role of each link. -/
def usedSlots (n : Fin 6) (hold : Side → LinkRole → Option AppliedHold) : List (Option (Fin 6)) :=
  [some n, (hold .left .applied).map (·.slot), (hold .left .incoming).map (·.slot), (hold .right .applied).map (·.slot),
    (hold .right .incoming).map (·.slot)]

/-- A STORED slot is one of the five. -/
theorem SlotsInv.mem_usedSlots {f : Fin 6 → FrameSlot} {building : Option (Fin 6)} {hold : Side → LinkRole → Option AppliedHold}
    (h : SlotsInv f building hold) {n : Fin 6} (hn : (f n).newest = true) {i : Fin 6} (hi : (f i).state = .stored) :
    some i ∈ usedSlots n hold := by
  obtain ⟨-, hunique, hok, -, hroles⟩ := h
  rcases ((stateOk_stored hi).mp (hok i)).2 with hnewest | hheld
  · exact hunique i n hnewest hn ▸ List.mem_cons_self
  · have hsome : ∃ x r, (f i).holders.has x r = true := by
      by_contra hnone
      push Not at hnone
      exact hheld ((eq_noHolders_iff _).mpr fun x r => Bool.eq_false_iff.mpr (hnone x r))
    obtain ⟨x, r, hhas⟩ := hsome
    rw [← ((hroles x r).1 i).mp hhas]
    cases x <;> cases r <;> simp [usedSlots]

/-- Six slots, of which five at most are STORED: without a build one is FREE. -/
theorem StoreInv.lowestFree_isSome {s : State} (h : StoreInv s) (hidle : s.builder.phase.build = none) :
    s.store.lowestFree.isSome = true := by
  obtain ⟨⟨n, hn⟩, -, -, hbuild, -⟩ := id h.slots
  by_contra hnone
  have hstored (i : Fin 6) : (s.store.slot i).state = .stored := by
    have hnotFree := List.find?_eq_none.mp (Option.not_isSome_iff_eq_none.mp hnone) i (mem_slotNumbers i)
    have hnotBuilding : (s.store.slot i).state ≠ .building := fun hb => by
      have hslot := (hbuild i).mp hb
      rw [State.buildSlot, hidle] at hslot
      cases hslot
    cases hstate : (s.store.slot i).state with
    | stored => rfl
    | free => simp [hstate] at hnotFree
    | building => exact absurd hstate hnotBuilding
  have hsubset : (Finset.univ.image (some : Fin 6 → Option (Fin 6))) ⊆ (usedSlots n s.holds).toFinset := by
    intro o ho
    obtain ⟨i, -, rfl⟩ := Finset.mem_image.mp ho
    exact List.mem_toFinset.mpr (h.slots.mem_usedSlots hn (hstored i))
  have hcard := (Finset.card_le_card hsubset).trans (List.toFinset_card_le _)
  rw [Finset.card_image_of_injective _ (Option.some_injective _), Finset.card_univ, Fintype.card_fin] at hcard
  exact absurd hcard (Nat.not_succ_le_self 5)

theorem StoreInv.newest_isSome {s : State} (h : StoreInv s) : s.store.newest.isSome = true := by
  obtain ⟨⟨n, hn⟩, -⟩ := h
  exact List.find?_isSome.mpr ⟨n, mem_slotNumbers n, hn⟩

theorem StoreInv.not_stops {s : State} (h : StoreInv s) (c : Instr) : ¬Stops c s := by
  rintro (⟨-, hidle, hnone⟩ | ⟨-, hnone⟩)
  · have hsome := h.lowestFree_isSome hidle
    rw [hnone] at hsome
    cases hsome
  · have hsome := h.newest_isSome
    rw [hnone] at hsome
    cases hsome

/-- From the bookkeeping, every command answers a next state. -/
theorem StoreInv.exec_next {s : State} (h : StoreInv s) (c : Instr) : ∃ t, exec c s = .next t := by
  by_cases hreset : c = .powerOnReset
  · exact ⟨_, hreset ▸ exec_powerOnReset s⟩
  · rcases exec_answers hreset (h.not_stops c) with hs | ⟨u, -, hu⟩
    · exact ⟨s, hs⟩
    · exact ⟨_, hu⟩

theorem storeInv_kept : KeptByStep StoreInv :=
  keptByStep_of (fun _ _ h => h) (fun _ h => storeInv_tick h) storeInv_afterPowerOnReset fun _ _ _ h hu => hu.storeInv h

end Sys2Proof.Machine

namespace Sys2Proof.Proofs

open Sys2Proof.Machine

/-- Settles O55: each change keeps the slot table, the build's slot and the links' holds in agreement; and then a build finds a FREE
slot and a take a newest one. -/
theorem storeKeptAndNoStepStops : Obligations.StoreKeptAndNoStepStops := by
  intro s h
  have hnext : ∃ t, step s = .next t := by
    cases hpending : s.pending with
    | nil => exact ⟨_, step_nil hpending⟩
    | cons c rest =>
      have hrest : StoreInv { s with pending := rest } := h
      obtain ⟨t, ht⟩ := hrest.exec_next c
      exact ⟨t, (step_cons hpending).trans ht⟩
  obtain ⟨t, ht⟩ := hnext
  exact ⟨t, ht, storeInv_kept s t h ht⟩

end Sys2Proof.Proofs
end

section
/-! SUPPORT. A requester at the port and the newest frame through every step (5.3, 5.4, 7.3, 7.6; R87 to R93, R124): what a requester
has at the port while others are granted, what the slots keep, and then the proof of the statement. -/

namespace Sys2Proof.Machine

/-! ## What a grant leaves at the port -/

theorem waiting_grant (r : Requester) (a : PortAccess) (s : State) (q : Requester) :
    (grant r a s).store.waiting q = if q = r then none else s.store.waiting q := by
  have hset (st : FrameStore) : (st.setWaiting r none).waiting q = if q = r then none else st.waiting q := by
    split
    next h => exact h ▸ waiting_setWaiting _ _ _
    next h => exact waiting_setWaiting_ne h _ _
  have hsame (busy : Option PortUse) :
      ({ s.store.setWaiting r none with lastGranted := r, busy := busy } : FrameStore).waiting q = (s.store.setWaiting r none).waiting q := by
    cases q <;> rfl
  by_cases hdiag : a.isDiag = false
  · rw [grant_access r a s ((isDiag_eq_false_iff a).mp hdiag), ← hset]
    exact hsame _
  · cases a with
    | diagRead i x k =>
      by_cases hstored : (s.store.slot i).state = .stored
      · rw [grant_stored r x k hstored, ← hset]
        exact hsame _
      · rw [grant_empty r x k hstored, ← hset]
        exact waiting_withLast _ _ _
    | blockWrite | headerWrite | headerRead | blockRead | compare => exact absurd rfl hdiag

/-- The access that a grant at a free port makes is the requester's, and wanted; a diagnostic read may make none. -/
theorem busy_grant (r : Requester) (a : PortAccess) (s : State) (hbusy : s.store.busy = none) :
    (a.isDiag = true ∧ (grant r a s).store.busy = none) ∨
      ∃ found, (grant r a s).store.busy = some { requester := r, access := a, wanted := true, found := found } := by
  by_cases hdiag : a.isDiag = false
  · rw [grant_access r a s ((isDiag_eq_false_iff a).mp hdiag)]
    exact .inr ⟨none, rfl⟩
  · cases a with
    | diagRead i x k =>
      by_cases hstored : (s.store.slot i).state = .stored
      · rw [grant_stored r x k hstored]
        exact .inr ⟨_, rfl⟩
      · rw [grant_empty r x k hstored]
        exact .inl ⟨rfl, by simpa using hbusy⟩
    | blockWrite | headerWrite | headerRead | blockRead | compare => exact absurd rfl hdiag

theorem accessOf_none_of_idle {st : FrameStore} (r : Requester) (h : st.busy = none) : st.accessOf r = none := by
  simp only [FrameStore.accessOf, h]

theorem accessOf_eq_none {st : FrameStore} {r : Requester} (h : ∀ w, st.busy = some w → w.requester ≠ r) : st.accessOf r = none := by
  unfold FrameStore.accessOf
  split
  next w hw => exact if_neg (h w hw)
  next => rfl

theorem accessOf_of_busy {st : FrameStore} {w : PortUse} {r : Requester} (h : st.busy = some w) (hr : w.requester = r) :
    st.accessOf r = some w := accessOf_eq_some.mpr ⟨h, hr⟩

/-- What a port shows of a requester depends on the access under way alone. -/
theorem accessOf_congr {st st' : FrameStore} (r : Requester) (h : st'.busy = st.busy) : st'.accessOf r = st.accessOf r := by
  simp only [FrameStore.accessOf, h]

/-! ## A requester's view of the port -/

/-- A property of what a requester waits for and of its access under way that no grant disturbs: it holds of no diagnostic read, and
still holds when the waiting request is granted. -/
structure GrantStable (r : Requester) (V : Option PortAccess → Option PortUse → Prop) : Prop where
  other : ∀ a u, V (some a) u → a.isDiag = false
  granted : ∀ a, V (some a) none → V none (some { requester := r, access := a, wanted := true, found := none })

section Views

variable {r : Requester} {V : Option PortAccess → Option PortUse → Prop}

/-- The view of a requester. -/
def Views (r : Requester) (V : Option PortAccess → Option PortUse → Prop) (s : State) : Prop :=
  V (s.store.waiting r) (s.store.accessOf r)

theorem Views.of_same {s u : State} (h : Views r V s) (hwaiting : u.store.waiting r = s.store.waiting r)
    (haccess : u.store.accessOf r = s.store.accessOf r) : Views r V u := by
  rw [Views, hwaiting, haccess]
  exact h

theorem Views.of_store {s u : State} (h : Views r V s) (hstore : u.store = s.store) : Views r V u :=
  h.of_same (by rw [hstore]) (by rw [hstore])

/-- Another's grant changes nothing of it; its own turns its waiting request into its access. -/
theorem Views.grant {s : State} (h : Views r V s) (hV : GrantStable r V) {q : Requester} {a : PortAccess}
    (hbusy : s.store.busy = none) (hq : s.store.waiting q = some a) : Views r V (grant q a s) := by
  have hidle := accessOf_none_of_idle r hbusy
  by_cases hqr : q = r
  · subst hqr
    have hview : V (some a) none := by rw [← hq, ← hidle]; exact h
    have hother := (isDiag_eq_false_iff a).mp (hV.other a none hview)
    have hgranted : (Machine.grant q a s).store.busy = some { requester := q, access := a, wanted := true, found := none } := by
      rw [grant_access _ _ _ hother]
    rw [Views, waiting_grant, if_pos rfl, accessOf_of_busy hgranted rfl]
    exact hV.granted a hview
  · refine h.of_same (by rw [waiting_grant, if_neg (Ne.symm hqr)]) ?_
    rw [hidle]
    refine accessOf_eq_none fun w hw => ?_
    rcases busy_grant q a s hbusy with ⟨-, hnone⟩ | ⟨found, hsome⟩
    · rw [hnone] at hw
      cases hw
    · rw [hsome] at hw
      cases hw
      exact hqr

theorem Views.arbitrate {s : State} (h : Views r V s) (hV : GrantStable r V) : Views r V (arbitrate s) :=
  arbitrate_induction (P := Views r V) (fun _ _ _ hbusy hq hview => hview.grant hV hbusy hq) h

/-- A request of another. -/
theorem Views.requestPort {s : State} (h : Views r V s) (hV : GrantStable r V) {q : Requester} (hq : r ≠ q) (a : PortAccess) :
    Views r V (requestPort q a s) := by
  refine Views.arbitrate (s := { s with store := s.store.setWaiting q (some a) }) ?_ hV
  exact h.of_same (waiting_setWaiting_ne hq _ _) (accessOf_congr r (setWaiting_busy _ _ _))

/-- The completion of another's access. -/
theorem Views.releasePort {s : State} (h : Views r V s) (hV : GrantStable r V) {w : PortUse} (hbusy : s.store.busy = some w)
    (hr : w.requester ≠ r) : Views r V (releasePort s) := by
  refine Views.arbitrate (s := { s with store := { s.store with busy := none } }) ?_ hV
  have hnone : s.store.accessOf r = none := accessOf_eq_none fun v hv => by
    rw [hbusy] at hv
    cases hv
    exact hr
  exact h.of_same (waiting_withBusy _ _ _) (by rw [hnone]; exact accessOf_none_of_idle r rfl)

/-- The completion of its own access. -/
theorem Views.released {s : State} (hwaiting : V (s.store.waiting r) none) (hV : GrantStable r V) : Views r V (Machine.releasePort s) := by
  refine Views.arbitrate (s := { s with store := { s.store with busy := none } }) ?_ hV
  rw [Views, waiting_withBusy, accessOf_none_of_idle r rfl]
  exact hwaiting

/-- Its own request. -/
theorem Views.requested {s : State} {a : PortAccess} (hasked : V (some a) (s.store.accessOf r)) (hV : GrantStable r V) :
    Views r V (Machine.requestPort r a s) := by
  refine Views.arbitrate (s := { s with store := s.store.setWaiting r (some a) }) ?_ hV
  rw [Views, waiting_setWaiting, accessOf_congr r (setWaiting_busy _ _ _)]
  exact hasked

/-- A link's withdrawal leaves the others. -/
theorem waiting_withdrawLink (st : FrameStore) (x : Side) (q : Requester) :
    (st.withdrawLink x).waiting q = if q = linkRequester x then none else st.waiting q := by
  rw [withdrawLink_eq, waiting_withBusy]
  split
  next h => exact h ▸ waiting_setWaiting _ _ _
  next h => exact waiting_setWaiting_ne h _ _

theorem busy_withdrawLink (st : FrameStore) (x : Side) :
    (st.withdrawLink x).busy = st.busy.map fun w => if w.requester = linkRequester x then { w with wanted := false } else w := by
  rw [withdrawLink_eq]

theorem accessOf_withdrawLink {st : FrameStore} {x : Side} (hr : r ≠ linkRequester x) :
    (st.withdrawLink x).accessOf r = st.accessOf r := by
  unfold FrameStore.accessOf
  rw [busy_withdrawLink]
  cases st.busy with
  | none => rfl
  | some w =>
    by_cases hw : w.requester = linkRequester x
    · simp [hw, Ne.symm hr]
    · simp [hw]

theorem accessOf_withdrawLink_self (st : FrameStore) (x : Side) :
    (st.withdrawLink x).accessOf (linkRequester x) =
      (st.accessOf (linkRequester x)).map fun w => { w with wanted := false } := by
  unfold FrameStore.accessOf
  rw [busy_withdrawLink]
  cases st.busy with
  | none => rfl
  | some w =>
    by_cases hw : w.requester = linkRequester x
    · simp [hw]
    · simp [hw]

variable {x : Side} (hx : r ≠ linkRequester x)
include hx

/-- A state whose store is one with link `x` withdrawn, and other slots. -/
theorem Views.withdrawn {s u : State} (h : Views r V s)
    (hwaiting : u.store.waiting r = (s.store.withdrawLink x).waiting r)
    (hbusy : u.store.busy = (s.store.withdrawLink x).busy) : Views r V u :=
  h.of_same (by rw [hwaiting, waiting_withdrawLink, if_neg hx]) (by rw [accessOf_congr r hbusy, accessOf_withdrawLink hx])

theorem Views.beginAttempt {s : State} (h : Views r V s) (hV : GrantStable r V) (t : Transfer) :
    Views r V (beginAttempt x t s) := by
  have hready : Views r V (attemptReady x t s) := h.withdrawn hx (by rw [attemptReady_store]) (by rw [attemptReady_store])
  rw [beginAttempt_eq]
  cases t.step with
  | compare => exact hready
  | header => exact hready.requestPort hV hx _
  | block k => exact hready.requestPort hV hx _
  | finish => exact hready.of_store (by simp [sendOnLink])

end Views

theorem waiting_withSlots (st : FrameStore) (slots : Vector FrameSlot 6) (r : Requester) :
    ({ st with slots := slots } : FrameStore).waiting r = st.waiting r := by
  cases r <;> rfl

theorem abandonTransfer_store_eq (x : Side) (s : State) :
    (abandonTransfer x s).store = { s.store.withdrawLink x with slots := (abandonTransfer x s).store.slots } := by
  rw [abandonTransfer_store]
  rfl

theorem completeTransfer_store_eq (x : Side) (t : Transfer) (s : State) :
    (completeTransfer x t s).store = { s.store.withdrawLink x with slots := (completeTransfer x t s).store.slots } := by
  rw [completeTransfer_store]
  rfl

theorem linkLost_store_eq (x : Side) (s : State) :
    (linkLost x s).store = { s.store.withdrawLink x with slots := (linkLost x s).store.slots } := by
  rw [linkLost, setLink_store]
  simp only [FrameStore.releaseApplied, FrameStore.mapSlots]
  rw [abandonTransfer_store_eq]

theorem take_eq (st : FrameStore) (x : Side) (n : Fin 6) : st.take x n = { st with slots := (st.take x n).slots } := rfl

theorem linkRequester_ne_commit (x : Side) : Requester.commit ≠ linkRequester x := by cases x <;> decide

theorem linkRequester_ne_diag (x : Side) : Requester.diag ≠ linkRequester x := by cases x <;> decide

theorem linkRequester_inj {x y : Side} (h : y ≠ x) : linkRequester y ≠ linkRequester x := by
  cases x with
  | left => cases y with
    | left => exact absurd rfl h
    | right => decide
  | right => cases y with
    | left => decide
    | right => exact absurd rfl h

section ViewChanges

variable {r : Requester} {V : Option PortAccess → Option PortUse → Prop} {x : Side} {s u : State}

/-- A change of another link. -/
theorem LinkChange.views (h : LinkChange x s u) (hx : r ≠ linkRequester x) (hV : GrantStable r V) (hs : Views r V s) :
    Views r V u := by
  have hne {w : PortUse} (hr : w.requester = linkRequester x) : w.requester ≠ r := fun h => hx (h.symm.trans hr)
  have habandoned : Views r V (abandonTransfer x s) :=
    hs.withdrawn hx (by rw [abandonTransfer_store_eq]; exact waiting_withSlots _ _ _) (by rw [abandonTransfer_store_eq])
  have hattempt (v : State) (hv : Views r V v) (t : Transfer) : Views r V (beginAttempt x t v) := hv.beginAttempt hx hV t
  cases h with
  | discarded w hbusy hr => exact hs.releasePort hV hbusy (hne hr)
  | headerSent t w i bytes hbusy hr =>
    exact (hs.of_store (u := sendOnLink x bytes s) (by simp [sendOnLink])).releasePort hV (by simpa [sendOnLink] using hbusy) (hne hr)
  | blockSent t w i lamp k bytes hbusy hr =>
    exact (hs.of_store (u := sendOnLink x bytes s) (by simp [sendOnLink])).releasePort hV (by simpa [sendOnLink] using hbusy) (hne hr)
  | compared t w a b lamp k hbusy hr =>
    have hreleased : Views r V (releasePort (afterNote x a b lamp k t s)) :=
      (hs.of_store (u := afterNote x a b lamp k t s) (by simp [afterNote])).releasePort hV (by simpa [afterNote] using hbusy) (hne hr)
    unfold afterCompare
    split
    · exact hreleased.requestPort hV hx _
    · exact hreleased.requestPort hV hx _
    · exact hreleased.requestPort hV hx _
    · exact hreleased.requestPort hV hx _
    · exact hattempt _ hreleased _
  | wireFreed => exact hs.of_store (by simp)
  | lampState bytes temp ok entries => exact hs.of_store (by simp)
  | lost =>
    refine hs.withdrawn hx ?_ ?_
    · simp only [raiseNotice_frame, raiseFault_frame]
      rw [linkLost_store_eq]
      exact waiting_withSlots _ _ _
    · simp only [raiseNotice_frame, raiseFault_frame]
      rw [linkLost_store_eq]
  | fetched n applied full absent =>
    have htaken : Views r V (takenState x n s) := hs.withdrawn hx (by rw [takenState_store, take_eq]; exact waiting_withSlots _ _ _)
      (by rw [takenState_store, take_eq])
    have hready : Views r V (compareReady x n s) := htaken.of_store (by simp [compareReady])
    rw [startTransfer_eq]
    dsimp only
    split
    · exact hattempt _ htaken _
    · split
      · exact hattempt _ htaken _
      · exact hready.requestPort hV hx _
  | acknowledged t =>
    by_cases hfinish : t.step = .finish
    · rw [takeAck_finish s hfinish]
      exact hs.withdrawn hx (by rw [completeTransfer_store_eq]; exact waiting_withSlots _ _ _) (by rw [completeTransfer_store_eq])
    · rw [takeAck_step s hfinish]
      exact hattempt s hs _
  | resent t =>
    by_cases hagain : t.retries < 3
    · rw [demandResend_again s hagain]
      exact hattempt s hs _
    · rw [demandResend_failed s hagain]
      exact habandoned.of_store (by simp [failTransfer])
  | quitted t => exact habandoned

/-- A change of the diagnostic unit or of the reader. -/
theorem DiagChange.views {c : Instr} (h : DiagChange s c u) (hr : r ≠ .diag) (hV : GrantStable r V) (hs : Views r V s) :
    Views r V u := by
  cases h with
  | faultsCleared | noticesCleared | masked => exact hs.of_store rfl
  | unmasked => exact hs.of_store rfl
  | answered _ data d => exact hs.of_store rfl
  | asked _ data i x k => exact (hs.of_store (u := { s with reader := some data }) rfl).requestPort hV hr _
  | read _ w hbusy hw =>
    exact (hs.of_store (u := placeReply (foundReply w.found) s) rfl).releasePort hV hbusy fun h => hr (h.symm.trans hw)

end ViewChanges

/-- An installation leaves nothing of COMMIT and the links at the port. -/
theorem views_installed {r : Requester} (hr : r ≠ .diag) {V : Option PortAccess → Option PortUse → Prop} (hV : GrantStable r V)
    (hnone : V none none) (s : State) : Views r V (arbitrate (installLimp s)) := by
  refine Views.arbitrate ?_ hV
  have hwaiting : (installLimp s).store.waiting r = none := by
    cases r with
    | commit | linkL | linkR => rfl
    | diag => exact absurd rfl hr
  rw [Views, hwaiting, accessOf_none_of_idle r rfl]
  exact hnone

/-! ## COMMIT at the port (R92) -/

/-- COMMIT asks for, or is making, exactly the given write, or nothing. -/
def CommitView (o : Option PortAccess) (w : Option PortAccess) (u : Option PortUse) : Prop :=
  (w = o ∧ u = none) ∨ (w = none ∧ u.map (·.access) = o)

theorem commitView_stable {o : Option PortAccess} (ho : ∀ a ∈ o, a.isDiag = false) : GrantStable .commit (CommitView o) where
  other a u h := by
    rcases h with ⟨rfl, -⟩ | ⟨hw, -⟩
    · exact ho a rfl
    · cases hw
  granted a h := by
    rcases h with ⟨rfl, -⟩ | ⟨hw, -⟩
    · exact .inr ⟨rfl, rfl⟩
    · cases hw

theorem commitView_none_iff (w : Option PortAccess) (u : Option PortUse) : CommitView none w u ↔ w = none ∧ u = none := by
  simp [CommitView]

theorem commitView_none_stable : GrantStable .commit (CommitView none) := commitView_stable (by simp)

theorem isDiag_commitWrite (n : Nat) : (commitWrite n).isDiag = false := by
  unfold commitWrite
  split <;> rfl

theorem commitWrite_stable (n : Nat) : GrantStable .commit (CommitView (some (commitWrite n))) :=
  commitView_stable fun a ha => by
    cases ha
    exact isDiag_commitWrite n

/-- The block that write `n` of a commit stores. -/
theorem eq_of_commitWrite_block {n : Nat} {lamp : Side} {k : Fin 5} (h : commitWrite n = .blockWrite lamp k) :
    (lamp = .left ∧ n = k.val) ∨ (lamp = .right ∧ n = k.val + 5) := by
  unfold commitWrite at h
  split at h <;> cases h <;> simp

theorem le_of_commitWrite_header {n : Nat} (h : commitWrite n = .headerWrite) : 10 ≤ n := by
  by_contra hlt
  interval_cases n <;> cases h

/-- The write that COMMIT asks for in a phase. -/
def BuilderPhase.commitAsk : BuilderPhase → Option PortAccess
  | .committing _ _ n => some (commitWrite n)
  | _ => none

theorem commitAsk_stable (p : BuilderPhase) : GrantStable .commit (CommitView p.commitAsk) := by
  cases p with
  | idle => exact commitView_none_stable
  | computing b => exact commitView_none_stable
  | committing b f n => exact commitWrite_stable n

/-- The blocks that a commit has written stand in its slot. -/
def BuilderPhase.BlocksOk (memory : Fin 6 → FrameMemory) : BuilderPhase → Prop
  | .committing b f n =>
    n ≤ 10 ∧ f.header.sequence = b.sequence ∧
      ∀ k : Fin 5,
        (k.val < n → (memory b.slot).block .left k = blockValues f.left k) ∧
          (k.val + 5 < n → (memory b.slot).block .right k = blockValues f.right k)
  | _ => True

/-- The frame memory of the store. -/
def State.memory (s : State) : Fin 6 → FrameMemory := fun i => (s.store.slot i).memory

theorem commitOk_iff (s : State) :
    CommitOk s ↔ s.builder.phase.BlocksOk s.memory ∧ Views .commit (CommitView s.builder.phase.commitAsk) s := by
  unfold CommitOk
  cases hphase : s.builder.phase with
  | idle => exact ⟨fun h => ⟨trivial, (commitView_none_iff _ _).mpr h⟩, fun h => (commitView_none_iff _ _).mp h.2⟩
  | computing b => exact ⟨fun h => ⟨trivial, (commitView_none_iff _ _).mpr h⟩, fun h => (commitView_none_iff _ _).mp h.2⟩
  | committing b f n =>
    exact ⟨fun ⟨hn, hsequence, hasks, hblocks⟩ => ⟨⟨hn, hsequence, hblocks⟩, hasks⟩,
      fun ⟨⟨hn, hsequence, hblocks⟩, hasks⟩ => ⟨hn, hsequence, hasks, hblocks⟩⟩

/-! ## The newest slot and frame memory -/

/-- A slot keeps its newest mark and its memory, and while newest its sequence. -/
def FrameSlot.NewestKept (sl sl' : FrameSlot) : Prop :=
  sl'.newest = sl.newest ∧ sl'.memory = sl.memory ∧ (sl.newest = true → sl'.sequence = sl.sequence)

theorem newestKept_refl (sl : FrameSlot) : sl.NewestKept sl := ⟨rfl, rfl, fun _ => rfl⟩

theorem newestKept_dropRole (x : Side) (r : LinkRole) (sl : FrameSlot) : sl.NewestKept (dropRole x r sl) :=
  ⟨dropRole_newest x r sl, dropRole_memory x r sl, fun hn => dropRole_sequence x r sl (.inl hn)⟩

theorem newestKept_promoteSlot (x : Side) (sl : FrameSlot) : sl.NewestKept (promoteSlot x sl) := by
  refine ⟨promoteSlot_newest x sl, ?_, fun hn => promoteSlot_sequence x sl (.inl hn)⟩
  unfold promoteSlot
  split
  · rfl
  · exact dropRole_memory _ _ _

theorem FrameSlot.NewestKept.trans {a b c : FrameSlot} (hab : a.NewestKept b) (hbc : b.NewestKept c) : a.NewestKept c := by
  obtain ⟨hn, hm, hq⟩ := hab
  obtain ⟨hn', hm', hq'⟩ := hbc
  exact ⟨hn'.trans hn, hm'.trans hm, fun h => (hq' (hn.trans h)).trans (hq h)⟩

/-- Every slot keeps its newest mark, its memory, and while newest its sequence. -/
def NewestKept (s u : State) : Prop := ∀ i, (s.store.slot i).NewestKept (u.store.slot i)

theorem NewestKept.of_slots {s u : State} (h : u.store.slots = s.store.slots) : NewestKept s u :=
  fun i => by rw [slot_withSlots h i]; exact newestKept_refl _

theorem NewestKept.memory {s u : State} (h : NewestKept s u) : u.memory = s.memory := funext fun i => (h i).2.1

theorem newestKept_take (s : State) (x : Side) (n : Fin 6) (i : Fin 6) :
    (s.store.slot i).NewestKept ((s.store.take x n).slot i) := by
  rw [slot_take]
  split
  next hi =>
    subst hi
    exact newestKept_dropRole x .incoming _
  next => exact newestKept_dropRole x .incoming _

theorem newestKept_abandonTransfer (x : Side) (s : State) : NewestKept s (abandonTransfer x s) := fun i => by
  rw [slot_abandonTransfer]
  exact newestKept_dropRole x .incoming _

theorem LinkChange.newestKept {x : Side} {s u : State} (h : LinkChange x s u) : NewestKept s u := by
  cases h with
  | discarded w => exact .of_slots (by simp)
  | headerSent t w i bytes => exact .of_slots (by simp)
  | blockSent t w i lamp k bytes => exact .of_slots (by simp)
  | compared t w a b lamp k =>
    refine .of_slots ?_
    rw [afterCompare_slots]
    simp [afterNote]
  | wireFreed => exact .of_slots (by simp)
  | lampState bytes temp ok entries => exact .of_slots (by simp)
  | lost =>
    intro i
    simp only [raiseNotice_frame, raiseFault_frame, slot_linkLost]
    exact (newestKept_dropRole x .incoming _).trans (newestKept_dropRole x .applied _)
  | fetched n applied full absent =>
    intro i
    rw [slot_startTransfer]
    exact newestKept_take s x n i
  | acknowledged t =>
    by_cases hfinish : t.step = .finish
    · intro i
      rw [takeAck_finish s hfinish, completeTransfer_store, FrameStore.promote, slot_mapSlots, withdrawLink_slot]
      exact newestKept_promoteSlot x _
    · rw [takeAck_step s hfinish]
      exact .of_slots (beginAttempt_slots _ _ _)
  | resent t =>
    by_cases hagain : t.retries < 3
    · rw [demandResend_again s hagain]
      exact .of_slots (beginAttempt_slots _ _ _)
    · rw [demandResend_failed s hagain]
      intro i
      simp only [failTransfer, raiseFault_frame]
      exact newestKept_abandonTransfer x s i
  | quitted t => exact newestKept_abandonTransfer x s

/-! ## The newest frame through every change -/

/-- What the newest frame's invariant says beside the bookkeeping of the slots. -/
def FrameOk (s : State) : Prop := MirrorAgrees s ∧ InFlightOk s ∧ CommitOk s

/-- Nothing of the build changes, and COMMIT's place at the port is kept. -/
theorem FrameOk.of_kept {s u : State} (h : FrameOk s) (hkept : NewestKept s u) (hphase : u.builder.phase = s.builder.phase)
    (hmirror : u.builder.mirror = s.builder.mirror)
    (hview : Views .commit (CommitView s.builder.phase.commitAsk) s → Views .commit (CommitView s.builder.phase.commitAsk) u) :
    FrameOk u := by
  obtain ⟨hagrees, hflight, hcommit⟩ := h
  rw [commitOk_iff] at hcommit
  refine ⟨fun i hi => ?_, ?_, (commitOk_iff u).mpr ?_⟩
  · obtain ⟨hn, hm, hq⟩ := hkept i
    have hold := hn.symm.trans hi
    rw [hm, hq hold, hmirror]
    exact hagrees i hold
  · rw [InFlightOk, hphase, hmirror]
    exact hflight
  · rw [hphase, hkept.memory]
    exact ⟨hcommit.1, hview hcommit.2⟩

theorem FrameOk.of_same {s u : State} (h : FrameOk s) (hstore : u.store = s.store) (hbuilder : u.builder = s.builder) : FrameOk u :=
  h.of_kept (.of_slots (by rw [hstore])) (by rw [hbuilder]) (by rw [hbuilder]) fun hv => hv.of_store hstore

/-- The LIMP frame in slot 0 is the mirror's. -/
theorem limpSlot_holds : limpSlot.memory.Holds (frameToMirror limpFrame) := by
  have hdark (k : Fin 5) : blockValues darkValues k = List.replicate 24 0 := blockValues_dark k
  refine ⟨rfl, rfl, rfl, rfl, rfl, fun k => ⟨?_, ?_⟩⟩
  · exact (block_limpFrame .left k).trans (hdark k).symm
  · exact (block_limpFrame .right k).trans (hdark k).symm

theorem frameOk_limp {u : State} {memory : Fin 6 → FrameMemory}
    (hslot : ∀ i, u.store.slot i = if i = 0 then limpSlot else freeSlot (memory i)) (hphase : u.builder.phase = .idle)
    (hmirror : u.builder.mirror = frameToMirror limpFrame) (hview : Views .commit (CommitView none) u) : FrameOk u := by
  refine ⟨fun i hi => ?_, ?_, (commitOk_iff u).mpr ?_⟩
  · rw [hslot] at hi ⊢
    split at hi
    next h0 =>
      rw [if_pos h0, hmirror]
      exact ⟨rfl, limpSlot_holds⟩
    next => cases hi
  · rw [InFlightOk, hphase]
    rintro _ ⟨⟩
  · rw [hphase]
    exact ⟨trivial, hview⟩

theorem frameOk_enterConfig (s : State) : FrameOk (enterConfig s) := by
  refine frameOk_limp (memory := s.memory) (fun i => ?_) (by simp [enterConfig]) (by simp [enterConfig])
    (views_installed (by decide) commitView_none_stable ((commitView_none_iff _ _).mpr ⟨rfl, rfl⟩) _)
  rw [enterConfig, slot_withSlots (arbitrate_slots _)]
  exact slot_installLimp s.store i

theorem frameOk_resetBlocks (s : State) : FrameOk (resetBlocks s) := by
  refine frameOk_limp (memory := s.memory) (fun i => ?_) (by simp [resetBlocks]) (by simp [resetBlocks])
    (views_installed (by decide) commitView_none_stable ((commitView_none_iff _ _).mpr ⟨rfl, rfl⟩) _)
  rw [resetBlocks, slot_withSlots (arbitrate_slots _)]
  exact slot_installLimp s.store i

theorem FrameOk.reportChange {s : State} (h : FrameOk s) : FrameOk (reportChange s) := h.of_same (by simp) (by simp)

theorem OperatingChange.frameOk {c : Instr} {s u : State} (h : OperatingChange s c u) (hs : FrameOk s) : FrameOk u := by
  cases h with
  | written _ p v => exact hs.of_same (by simp) (by simp)
  | ran data =>
    have hran : FrameOk (enterRun s) := hs.of_kept (.of_slots rfl) rfl rfl fun hv => hv.of_store rfl
    exact hran.reportChange
  | configured data => exact (frameOk_enterConfig s).reportChange
  | restarted data => exact frameOk_resetBlocks s
  | restartedAnew data => exact (frameOk_resetBlocks s).reportChange

/-! ## The builder's changes -/

theorem block_writeBlock (m : FrameMemory) (lamp x : Side) (k j : Fin 5) (values : List Nat) :
    (m.writeBlock lamp k values).block x j = if x = lamp ∧ j = k then values else m.block x j := by
  have hget (v : Vector (List Nat) 5) : (v.set k values).get j = if j = k then values else v.get j := by
    simp only [Vector.get_eq_getElem, Vector.getElem_set, Fin.ext_iff, eq_comm]
  cases lamp <;> cases x <;> simp [FrameMemory.writeBlock, FrameMemory.block, hget]

theorem header_writeBlock (m : FrameMemory) (lamp : Side) (k : Fin 5) (values : List Nat) :
    (m.writeBlock lamp k values).header = m.header := by
  cases lamp <;> rfl

/-- A block of a commit written: the blocks done are one more. -/
theorem blocksOk_written {memory memory' : Fin 6 → FrameMemory} {b : Build} {f : Frame} {n : Nat} {lamp : Side} {k : Fin 5}
    (h : (BuilderPhase.committing b f n).BlocksOk memory) (hwrite : commitWrite n = .blockWrite lamp k)
    (hmemory : memory' b.slot = (memory b.slot).writeBlock lamp k (blockValues (f.values lamp) k)) :
    (BuilderPhase.committing b f (n + 1)).BlocksOk memory' := by
  obtain ⟨-, hsequence, hblocks⟩ := h
  have hn := eq_of_commitWrite_block hwrite
  refine ⟨?_, hsequence, fun j => ⟨fun hj => ?_, fun hj => ?_⟩⟩
  · have hk := k.isLt
    omega
  · rw [hmemory, block_writeBlock]
    split
    next hjk =>
      obtain ⟨rfl, rfl⟩ := hjk
      rfl
    next hjk =>
      refine (hblocks j).1 ?_
      rcases hn with ⟨rfl, rfl⟩ | ⟨rfl, rfl⟩
      · have hne : j.val ≠ k.val := fun h => hjk ⟨rfl, Fin.ext h⟩
        omega
      · have hjlt := j.isLt
        omega
  · rw [hmemory, block_writeBlock]
    split
    next hjk =>
      obtain ⟨rfl, rfl⟩ := hjk
      rfl
    next hjk =>
      refine (hblocks j).2 ?_
      rcases hn with ⟨rfl, rfl⟩ | ⟨rfl, rfl⟩
      · have hklt := k.isLt
        omega
      · have hne : j.val ≠ k.val := fun h => hjk ⟨rfl, Fin.ext h⟩
        omega

/-- The write that COMMIT is making is the one it asks for. -/
theorem Views.commit_access {s : State} {o : Option PortAccess} (h : Views .commit (CommitView o) s) {w : PortUse}
    (hbusy : s.store.busy = some w) (hr : w.requester = .commit) : s.store.waiting .commit = none ∧ some w.access = o := by
  rw [Views, accessOf_of_busy hbusy hr] at h
  rcases h with ⟨-, hnone⟩ | ⟨hwaiting, haccess⟩
  · cases hnone
  · exact ⟨hwaiting, haccess⟩

theorem Views.commit_released {s : State} (h : s.store.waiting .commit = none) : Views .commit (CommitView none) (Machine.releasePort s) :=
  Views.released ((commitView_none_iff _ _).mpr ⟨h, rfl⟩) commitView_none_stable

theorem Views.commit_requested {s : State} (h : Views .commit (CommitView none) s) (n : Nat) :
    Views .commit (CommitView (some (commitWrite n))) (Machine.requestPort .commit (commitWrite n) s) := by
  obtain ⟨-, haccess⟩ := (commitView_none_iff _ _).mp h
  exact Views.requested (.inl ⟨rfl, haccess⟩) (commitWrite_stable n)

theorem waiting_withSlotsOf {st st' : FrameStore} (h : st' = { st with slots := st'.slots }) (r : Requester) :
    st'.waiting r = st.waiting r := by
  rw [h]
  exact waiting_withSlots _ _ _

theorem frameOk_computed {s : State} {b : Build} (hphase : s.builder.phase = .computing b) (hs : FrameOk s) :
    FrameOk (requestPort .commit (commitWrite 0) (afterCompute b s)) := by
  obtain ⟨hagrees, hflight, hcommit⟩ := hs
  obtain ⟨-, hview⟩ := (commitOk_iff s).mp hcommit
  rw [hphase] at hview
  have hbuilder : (requestPort .commit (commitWrite 0) (afterCompute b s)).builder =
      { s.builder with
        phase := .committing b (buildFrame (committedCal s) b.snapshot s.builder.workingCopy b.sequence) 0 } := by
    simp only [requestPort_frame]
    exact afterCompute_builder b s
  have hslots : (requestPort .commit (commitWrite 0) (afterCompute b s)).store.slots = s.store.slots := by
    rw [requestPort_slots]
    simp
  have hasked : Views .commit (CommitView (some (commitWrite 0))) (requestPort .commit (commitWrite 0) (afterCompute b s)) :=
    Views.commit_requested (hview.of_store (by simp)) 0
  generalize requestPort .commit (commitWrite 0) (afterCompute b s) = u at hbuilder hslots hasked
  refine ⟨fun i hi => ?_, ?_, (commitOk_iff _).mpr ?_⟩
  · rw [slot_withSlots hslots] at hi ⊢
    rw [hbuilder]
    exact hagrees i hi
  · rw [InFlightOk, hbuilder]
    intro b' hb'
    cases hb'
    exact hflight b (by rw [hphase]; rfl)
  · rw [hbuilder]
    refine ⟨⟨Nat.zero_le _, rfl, fun k => ⟨fun h => absurd h (Nat.not_lt_zero _), fun h => absurd h (Nat.not_lt_zero _)⟩⟩,
      hasked⟩

theorem frameOk_blockWritten {s : State} {b : Build} {f : Frame} {n : Nat} {w : PortUse} {lamp : Side} {k : Fin 5}
    (hphase : s.builder.phase = .committing b f n) (hbusy : s.store.busy = some w) (hr : w.requester = .commit)
    (ha : w.access = .blockWrite lamp k) (hstore : StoreInv s) (hs : FrameOk s) :
    FrameOk (requestPort .commit (commitWrite (n + 1)) (releasePort (afterBlockWrite b f n lamp k s))) := by
  obtain ⟨hagrees, hflight, hcommit⟩ := hs
  obtain ⟨hblocks, hview⟩ := (commitOk_iff s).mp hcommit
  rw [hphase] at hview hblocks
  obtain ⟨hwaiting, haccess⟩ := hview.commit_access hbusy hr
  have hwrite : commitWrite n = .blockWrite lamp k := (Option.some.inj haccess).symm.trans ha
  have hbuilder : (requestPort .commit (commitWrite (n + 1)) (releasePort (afterBlockWrite b f n lamp k s))).builder =
      { s.builder with phase := .committing b f (n + 1) } := by
    simp [afterBlockWrite]
  have hslot (i : Fin 6) :
      (requestPort .commit (commitWrite (n + 1)) (releasePort (afterBlockWrite b f n lamp k s))).store.slot i =
        (afterBlockWrite b f n lamp k s).store.slot i := slot_withSlots (by simp) i
  have hbuilding : (s.store.slot b.slot).newest = false := by
    obtain ⟨-, -, hok, hbuild, -⟩ := hstore.slots
    have hstate : (s.store.slot b.slot).state = .building := (hbuild b.slot).mpr (by rw [State.buildSlot, hphase]; rfl)
    exact ((stateOk_unused (by simp [hstate])).mp (hok b.slot)).1
  refine ⟨fun i hi => ?_, ?_, (commitOk_iff _).mpr ?_⟩
  · rw [hslot, slot_afterBlockWrite] at hi ⊢
    rw [hbuilder]
    split at hi
    next => exact absurd (hbuilding.symm.trans hi) (by simp)
    next hne =>
      rw [if_neg hne]
      exact hagrees i hi
  · rw [InFlightOk, hbuilder]
    intro b' hb'
    cases hb'
    exact hflight b (by rw [hphase]; rfl)
  · rw [hbuilder]
    refine ⟨blocksOk_written hblocks hwrite ?_, ?_⟩
    · rw [State.memory, hslot, slot_afterBlockWrite, if_pos rfl]
      rfl
    · have hwaiting' : (afterBlockWrite b f n lamp k s).store.waiting .commit = none := hwaiting
      exact Views.commit_requested (Views.commit_released hwaiting') (n + 1)

theorem frameOk_committed {s : State} {b : Build} {f : Frame} {n : Nat} {w : PortUse}
    (hphase : s.builder.phase = .committing b f n) (hbusy : s.store.busy = some w) (hr : w.requester = .commit)
    (ha : w.access = .headerWrite) (hs : FrameOk s) : FrameOk (releasePort (afterCommit b f s)) := by
  obtain ⟨-, -, hcommit⟩ := hs
  obtain ⟨hblocks, hview⟩ := (commitOk_iff s).mp hcommit
  rw [hphase] at hview hblocks
  obtain ⟨hwaiting, haccess⟩ := hview.commit_access hbusy hr
  have hn : 10 ≤ n := le_of_commitWrite_header ((Option.some.inj haccess).symm.trans ha)
  obtain ⟨-, hsequence, hdone⟩ := hblocks
  have hbuilder : (releasePort (afterCommit b f s)).builder = { s.builder with phase := .idle, mirror := frameToMirror f } := by
    simp only [releasePort_frame]
    exact afterCommit_builder b f s
  have hslot (i : Fin 6) : (releasePort (afterCommit b f s)).store.slot i = (s.store.afterHeaderWrite b f).slot i := by
    rw [slot_withSlots (releasePort_slots _), afterCommit_store]
  refine ⟨fun i hi => ?_, ?_, (commitOk_iff _).mpr ?_⟩
  · rw [hslot, slot_afterHeaderWrite] at hi ⊢
    rw [hbuilder]
    split at hi
    next h =>
      subst h
      rw [if_pos rfl]
      refine ⟨congrArg some hsequence.symm, rfl, rfl, rfl, rfl, rfl, fun k => ?_⟩
      have hk := k.isLt
      exact ⟨(hdone k).1 (by omega), (hdone k).2 (by omega)⟩
    next => simp [loseNewest_newest] at hi
  · rw [InFlightOk, hbuilder]
    rintro _ ⟨⟩
  · rw [hbuilder]
    exact ⟨trivial, Views.commit_released hwaiting⟩

theorem frameOk_started {s : State} {slot : Fin 6} (hidle : s.builder.phase.build = none) (hfree : s.store.lowestFree = some slot)
    (hs : FrameOk s) : FrameOk (startBuild slot (restartTimer s)) := by
  obtain ⟨hagrees, -, hcommit⟩ := hs
  obtain ⟨-, hview⟩ := (commitOk_iff s).mp hcommit
  have hask : s.builder.phase.commitAsk = none := by
    cases hphase : s.builder.phase with
    | idle => rfl
    | computing b => rfl
    | committing b f n => simp [hphase, BuilderPhase.build] at hidle
  rw [hask] at hview
  obtain ⟨snapshot, copy, hbuilder, hprevious⟩ := startBuild_builder slot (restartTimer s)
  have hslot (i : Fin 6) : (startBuild slot (restartTimer s)).store.slot i =
      if i = slot then { s.store.slot slot with state := .building } else s.store.slot i := by
    rw [startBuild_store, FrameStore.claim]
    split
    next hi => rw [hi, slot_setSlot_self]; rfl
    next hi => rw [slot_setSlot_ne hi]; rfl
  refine ⟨fun i hi => ?_, ?_, (commitOk_iff _).mpr ?_⟩
  · rw [hslot] at hi ⊢
    rw [hbuilder]
    split at hi
    next h =>
      subst h
      rw [if_pos rfl]
      exact hagrees i hi
    next hne =>
      rw [if_neg hne]
      exact hagrees i hi
  · rw [InFlightOk, hbuilder]
    intro b hb
    cases hb
    exact ⟨rfl, hprevious⟩
  · rw [hbuilder]
    refine ⟨trivial, hview.of_same ?_ ?_⟩
    · rw [startBuild_store]
      rfl
    · rw [startBuild_store]
      rfl

theorem BuildChange.frameOk {s u : State} (h : BuildChange s u) (hstore : StoreInv s) (hs : FrameOk s) : FrameOk u := by
  cases h with
  | overrun b =>
    have hkept : FrameOk (restartTimer s) := hs.of_kept (.of_slots rfl) rfl rfl fun hv => hv.of_store rfl
    exact hkept.of_same (by simp) (by simp)
  | started slot ht hidle hfree => exact frameOk_started hidle hfree hs
  | computed b hphase => exact frameOk_computed hphase hs
  | blockWritten b f n w lamp k hphase hbusy hr ha => exact frameOk_blockWritten hphase hbusy hr ha hstore hs
  | committed b f n w hphase hbusy hr ha => exact frameOk_committed hphase hbusy hr ha hs

theorem Change.frameOk {c : Instr} {s u : State} (h : Change c s u) (hstore : StoreInv s) (hs : FrameOk s) : FrameOk u := by
  have hstable := commitAsk_stable s.builder.phase
  cases h with
  | unchanged => exact hs
  | fault f => exact hs.of_same (by simp) (by simp)
  | tracks h => exact hs.of_same (by simp [h.frame]) (by simp [h.frame])
  | driving h => exact hs.of_same (by simp [h.frame]) (by simp [h.frame])
  | cache h => exact hs.of_same (by simp [h.frame]) (by simp [h.frame])
  | build h => exact h.frameOk hstore hs
  | link x h =>
    exact hs.of_kept h.newestKept (by simp [h.frame]) (by simp [h.frame])
      fun hv => h.views (linkRequester_ne_commit x) hstable hv
  | diag h =>
    exact hs.of_kept (.of_slots (by simp [h.frame])) (by simp [h.frame]) (by simp [h.frame])
      fun hv => h.views (by decide) hstable hv
  | operating h => exact h.frameOk hs
  | port h => exact hs.of_same (by simp [h.frame]) (by simp [h.frame])

theorem frameOk_tick {s : State} (h : FrameOk s) : FrameOk (tick s) :=
  h.of_kept (.of_slots rfl) rfl rfl fun hv => hv.of_store rfl

theorem frameOk_afterPowerOnReset (s : State) : FrameOk (afterPowerOnReset s) :=
  frameOk_limp (memory := fun _ => frameToMemory limpFrame) (fun i => slot_resetStore i) rfl rfl
    ((commitView_none_iff _ _).mpr ⟨rfl, rfl⟩)

end Sys2Proof.Machine

namespace Sys2Proof.Proofs

open Sys2Proof.Machine

/-- Settles O56: the build's own commands move the mirror and the slots together, and no other command touches the newest slot, the
frame memory or COMMIT's place at the port. -/
theorem newestFrameKeptByEveryStep : Obligations.NewestFrameKeptByEveryStep := by
  refine keptByStep_of (inv := fun s => StoreInv s ∧ FrameOk s) (fun _ _ h => h) (fun _ h => ⟨storeInv_tick h.1, frameOk_tick h.2⟩)
    (fun s => ⟨storeInv_afterPowerOnReset s, frameOk_afterPowerOnReset s⟩) fun _ _ u h hu => ?_
  have hframe : FrameOk u := hu.frameOk h.1 h.2
  exact ⟨hu.storeInv h.1, hframe.of_same rfl rfl⟩

end Sys2Proof.Proofs
end

section
/-! SUPPORT. The stages of a build's compute (Chapter 6, R111 to R122): the committed mode, the value of a segment after each stage, and
then the proof of the statement. -/

namespace Sys2Proof.Machine

/-! ## The committed mode (R111) -/

theorem needsDist_eq_false_iff (m : BeamMode) : m.needsDist = false ↔ m = .low ∨ m = .dark := by
  cases m <;> simp [BeamMode.needsDist]

theorem shading_iff (m : BeamMode) : m.shading = true ↔ m ∈ [.town, .country, .motorway, .mountain, .weather] := by
  cases m <;> simp [BeamMode.shading]

/-! ## Base values (R112, R113) -/

theorem baseValue_unlit {m : BeamMode} (h : m = .low ∨ m = .dark) (workingCopy : Option (List Nat)) (lamp : Side) (bend : Int)
    (r col : Nat) : baseValue m workingCopy lamp bend r col = 0 := by
  rw [baseValue, (needsDist_eq_false_iff m).mpr h]
  rfl

theorem baseValue_lit {m : BeamMode} (h : ¬(m = .low ∨ m = .dark)) (workingCopy : Option (List Nat)) (lamp : Side) (bend : Int)
    (r col : Nat) : baseValue m workingCopy lamp bend r col = shiftedValue (workingCopy.getD []) lamp bend r col := by
  rw [baseValue, if_pos]
  simpa using mt (needsDist_eq_false_iff m).mp h

/-- The template of a lamp, written out by lamp. -/
theorem template_eq (dist : List Nat) (lamp : Side) (r : Nat) (j : Int) :
    template dist lamp r j =
      if 0 ≤ j ∧ j < 40 then
        if lamp = .right then dist.getD (r * 40 + j.toNat) 0 else dist.getD (r * 40 + (39 - j.toNat)) 0
      else 0 := by
  cases lamp <;> rfl

/-! ## Zones, dead segments and the rise limit (R114 to R118) -/

theorem Zone.covers_iff (z : Zone) (r col : Nat) : z.covers r col = true ↔ z.cL ≤ col ∧ col ≤ z.cR ∧ r ∈ z.rows := by
  simp [Zone.covers, and_assoc]

theorem Zone.shoulders_iff (z : Zone) (r col : Nat) :
    z.shoulders r col = true ↔ (z.leftShoulder = some col ∨ z.rightShoulder = some col) ∧ r ∈ z.rows := by
  simp [Zone.shoulders]

theorem applyDead_le (dead : List Nat) (i n : Nat) : applyDead dead i n ≤ n := by
  unfold applyDead
  split <;> omega

theorem applyDead_of_mem {dead : List Nat} {i : Nat} (h : i ∈ dead) (n : Nat) : applyDead dead i n = 0 := by
  simp [applyDead, h]

theorem applyDead_eq (dead : List Nat) (i n : Nat) : applyDead dead i n = if i ∈ dead then 0 else n := by
  simp [applyDead]

theorem applyRise_le (flash : Bool) (rise p n : Nat) : applyRise flash rise p n ≤ n := by
  unfold applyRise
  split
  · exact le_rfl
  · split <;> omega

theorem applyRise_le_risen (rise p n : Nat) : applyRise false rise p n ≤ p + rise := by
  simp only [applyRise, Bool.false_eq_true, if_false]
  split <;> omega

theorem applyRise_eq (flash : Bool) (rise p n : Nat) :
    applyRise flash rise p n = if flash = true ∨ n ≤ p then n else min n (p + rise) := by
  cases flash <;> simp [applyRise]

section SegmentValue

variable (x : LampInputs) {r col : Nat}

/-- A segment's base value. -/
def LampInputs.base (r col : Nat) : Nat := baseValue x.mode x.workingCopy x.lamp x.bend r col

/-- A segment's value after the zones and shoulders. -/
def LampInputs.zoned (r col : Nat) : Nat := applyZones x.shoulder (x.base r col) r col x.zones

theorem segmentValue_eq (hcol : col < 40) :
    segmentValue x (r * 40 + col) =
      applyRise x.flash x.rise (x.previous.getD (r * 40 + col) 0) (applyDead x.dead (r * 40 + col) (x.zoned r col)) := by
  have hrow : segmentRow (r * 40 + col) = r := by unfold segmentRow; omega
  have hcolumn : segmentColumn (r * 40 + col) = col := by unfold segmentColumn; omega
  rw [segmentValue, hrow, hcolumn]
  rfl

theorem risenValues_getD {i : Nat} (hi : i < 120) : (risenValues x).getD i 0 = segmentValue x i := by
  rw [risenValues, List.getD_eq_getElem _ _ (by simpa using hi)]
  simp

theorem length_risenValues : (risenValues x).length = 120 := by simp [risenValues]

theorem segmentValue_le_zoned (hcol : col < 40) : segmentValue x (r * 40 + col) ≤ x.zoned r col := by
  rw [segmentValue_eq x hcol]
  exact (applyRise_le _ _ _ _).trans (applyDead_le _ _ _)

theorem zoned_le_base : x.zoned r col ≤ x.base r col := (foldl_applyZone_spec _ _ _ _ _ _).1

theorem zoned_le_level {z : Zone} (hz : z ∈ x.zones) (hcovers : z.covers r col = true) : x.zoned r col ≤ z.level :=
  ((foldl_applyZone_spec _ _ _ _ _ _).2.1 z hz).1 hcovers

theorem segmentValue_dead (hcol : col < 40) (hdead : r * 40 + col ∈ x.dead) : segmentValue x (r * 40 + col) = 0 := by
  rw [segmentValue_eq x hcol, applyDead_of_mem hdead]
  exact Nat.le_zero.mp (applyRise_le _ _ _ _)

theorem segmentValue_le_risen (hcol : col < 40) (hflash : x.flash = false) :
    segmentValue x (r * 40 + col) ≤ x.previous.getD (r * 40 + col) 0 + x.rise := by
  rw [segmentValue_eq x hcol, hflash]
  exact applyRise_le_risen _ _ _

end SegmentValue

/-! ## The budget stage only lowers (R120 to R122) -/

theorem budgetValues_getD_le (yellowBand beff : Nat) (values : List Nat) (i : Nat) :
    (budgetValues (budgetBand yellowBand beff values.sum) beff values).getD i 0 ≤ values.getD i 0 := by
  by_cases hred : budgetBand yellowBand beff values.sum = .red
  · have hover : beff < values.sum := (budgetBand_eq_red_iff _ _ _).mp hred
    rw [hred, budgetValues_red]
    by_cases hi : i < values.length
    · rw [List.getD_eq_getElem _ _ (by simpa using hi), List.getD_eq_getElem _ _ hi, List.getElem_map]
      exact Nat.div_le_of_le_mul (by rw [Nat.mul_comm values.sum]; exact Nat.mul_le_mul_left _ hover.le)
    · rw [List.getD_eq_default _ _ (by simpa using hi)]
      exact Nat.zero_le _
  · rw [budgetValues_of_ne_red _ _ hred]

/-- A committed value is at most the value after the rise limit. -/
theorem values_le_risen (c : CalSet) (snap : Snapshot) (workingCopy : Option (List Nat)) (sequence : Nat) (lamp : Side) (i : Nat) :
    ((buildFrame c snap workingCopy sequence).values lamp).getD i 0 ≤ (risenValues (lampInputs c snap workingCopy lamp)).getD i 0 := by
  rw [buildFrame_values, lampResult]
  dsimp only
  generalize risenValues (lampInputs c snap workingCopy lamp) = values
  exact budgetValues_getD_le _ _ _ i

end Sys2Proof.Machine

namespace Sys2Proof.Proofs

open Sys2Proof.Machine

/-- Settles O34: a committed value is at most the segment's value after the rise limit, and each stage up to it has its exact value. -/
theorem stagesOnlyLowerTheBaseValue : Obligations.StagesOnlyLowerTheBaseValue := by
  intro c snap workingCopy sequence lamp r col hr hcol f v
  have hmode : (lampInputs c snap workingCopy lamp).mode = f.header.mode := rfl
  have hrisen : (risenValues (lampInputs c snap workingCopy lamp)).getD (r * 40 + col) 0 =
      segmentValue (lampInputs c snap workingCopy lamp) (r * 40 + col) := risenValues_getD _ (by omega)
  have hv : v ≤ segmentValue (lampInputs c snap workingCopy lamp) (r * 40 + col) := hrisen ▸ values_le_risen _ _ _ _ _ _
  have hzoned := hv.trans (segmentValue_le_zoned _ hcol)
  have hbase := hzoned.trans (zoned_le_base _)
  refine ⟨?zone, ?dead, ?rise, ?unlit, ?base, ?exact⟩
  case zone =>
    intro hshading t ht z hz hL hR hrow
    refine hzoned.trans (zoned_le_level _ ?_ ((z.covers_iff r col).mpr ⟨hL, hR, hrow⟩))
    show z ∈ lampZones c snap f.header.mode lamp
    rw [lampZones, if_pos hshading]
    exact List.mem_filterMap.mpr ⟨t, ht, hz⟩
  case dead =>
    intro hdead
    exact Nat.le_zero.mp (hv.trans (segmentValue_dead _ hcol hdead).le)
  case rise => exact fun hflash => hv.trans (segmentValue_le_risen _ hcol hflash)
  case unlit =>
    intro hunlit
    exact Nat.le_zero.mp (hbase.trans (baseValue_unlit (hmode ▸ hunlit) _ _ _ _ _).le)
  case base =>
    intro dist hdist hlow hdark
    have hlit := baseValue_lit (m := f.header.mode) (by tauto) workingCopy lamp f.header.bend r col
    refine hbase.trans (hlit.le.trans ?_)
    rw [hdist]
    cases lamp <;> exact le_rfl
  case exact =>
    intro k weight dist at' base zones inZone inShoulder bound p
    have hbase : (lampInputs c snap workingCopy lamp).base r col = base := by
      by_cases hunlit : f.header.mode = .low ∨ f.header.mode = .dark
      · exact (baseValue_unlit hunlit _ _ _ _ _).trans (if_pos hunlit).symm
      · refine (baseValue_lit hunlit _ _ _ _ _).trans (Eq.trans ?_ (if_neg hunlit).symm)
        cases lamp <;> rfl
    have hzones : (lampInputs c snap workingCopy lamp).zones = zones := if_congr (shading_iff _) rfl rfl
    obtain ⟨hle, hall, hattained⟩ :=
      foldl_applyZone_spec (c.nat .shoulder) base r col zones base
    refine ⟨applyZones (c.nat .shoulder) base r col zones, ⟨hle, fun z hz => ?_, ?_⟩, ?_⟩
    · obtain ⟨hcovers, hshoulders⟩ := hall z hz
      exact ⟨fun h => hcovers ((z.covers_iff r col).mpr h), fun h => hshoulders ((z.shoulders_iff r col).mpr h)⟩
    · refine hattained.imp_right fun ⟨z, hz, hn⟩ => ⟨z, hz, ?_⟩
      exact hn.imp (fun h => ⟨(z.covers_iff r col).mp h.1, h.2⟩) fun h => ⟨(z.shoulders_iff r col).mp h.1, h.2⟩
    · rw [hrisen, segmentValue_eq _ hcol, applyRise_eq, applyDead_eq, LampInputs.zoned, hbase, hzones]
      rfl

end Sys2Proof.Proofs
end

section
/-! SUPPORT. The pattern builder's commands (Chapter 5, R84 to R92): a build's start with its lookup, the completion of the compute with
what the lamps' bands raise, a block write of the commit, and then the proofs of the statements. -/

namespace Sys2Proof.Machine

/-! ## A lookup beside the builder's timer and the store (R65 to R70) -/

/-- The state with another build timer and another store. -/
def State.rebuilt (timer : Option Nat) (store : FrameStore) (s : State) : State :=
  { s with store := store, builder := { s.builder with timer := timer } }

section Rebuilt

variable (timer : Option Nat) (store : FrameStore) (s : State)

theorem raiseNotice_rebuilt (k : NoticeKind) : raiseNotice k (s.rebuilt timer store) = (raiseNotice k s).rebuilt timer store := by
  rw [raiseNotice_eq, raiseNotice_eq]
  rfl

theorem raiseFault_rebuilt (f : FaultReport) : raiseFault f (s.rebuilt timer store) = (raiseFault f s).rebuilt timer store := by
  cases hcapture : s.diag.capture with
  | none =>
    rw [raiseFault_empty f s hcapture, raiseFault_empty f (s.rebuilt timer store) hcapture, ← raiseNotice_rebuilt]
    rfl
  | some record =>
    rw [raiseFault_filled f s record hcapture, raiseFault_filled f (s.rebuilt timer store) record hcapture]
    rfl

theorem missRequest_rebuilt (d : Nat) : missRequest d (s.rebuilt timer store) = (missRequest d s).rebuilt timer store := by
  by_cases hknown : d ∈ s.cache.failed ∨ ∃ r ∈ s.cache.request, r.id = d
  · rw [missRequest_known hknown, missRequest_known (s := s.rebuilt timer store) hknown]
  · obtain ⟨hfailed, hasked⟩ := not_or.mp hknown
    have hasked : ∀ r ∈ s.cache.request, r.id ≠ d := fun r hr he => hasked ⟨r, hr, he⟩
    rw [missRequest_unknown hfailed hasked, missRequest_unknown (s := s.rebuilt timer store) hfailed hasked]
    rfl

theorem lookupMiss_rebuilt (d : Nat) : lookupMiss d (s.rebuilt timer store) = (lookupMiss d s).rebuilt timer store := by
  simp only [lookupMiss, missRequest_rebuilt, ← raiseNotice_rebuilt]
  rfl

theorem lookupParity_rebuilt (d sequence : Nat) (w : Bool) :
    lookupParity d sequence w (s.rebuilt timer store) = (lookupParity d sequence w s).rebuilt timer store := by
  rw [lookupParity_eq, lookupParity_eq, ← raiseFault_rebuilt]
  rfl

theorem lookup_rebuilt (d sequence : Nat) :
    lookup d sequence (s.rebuilt timer store) = ((lookup d sequence s).1.rebuilt timer store, (lookup d sequence s).2) := by
  cases hway : s.cache.hitWay d with
  | none =>
    rw [lookup_of_no_hit _ hway, lookup_of_no_hit (s := s.rebuilt timer store) _ hway, lookupMiss_rebuilt]
  | some w =>
    by_cases hagree : rowChecks (s.cache.slot d w).values = (s.cache.slot d w).checks
    · rw [lookup_of_agreeing _ hway hagree, lookup_of_agreeing (s := s.rebuilt timer store) _ hway hagree]
      rfl
    · rw [lookup_of_disagreeing _ hway hagree, lookup_of_disagreeing (s := s.rebuilt timer store) _ hway hagree,
        lookupParity_rebuilt, lookupMiss_rebuilt]

theorem lookupFor_rebuilt (mode : BeamMode) (sequence : Nat) :
    lookupFor mode sequence (s.rebuilt timer store) =
      ((lookupFor mode sequence s).1.rebuilt timer store, (lookupFor mode sequence s).2) := by
  cases hdist : modeDist mode with
  | none => simp only [lookupFor, hdist]
  | some p =>
    have hcal : committedCal (s.rebuilt timer store) = committedCal s := rfl
    simp only [lookupFor, hdist, hcal, lookup_rebuilt]

end Rebuilt

/-! ## BUILD_TIMER_EXPIRY (R84 to R87) -/

theorem slotNumbers_around (i : Fin 6) :
    slotNumbers = slotNumbers.takeWhile (· < i) ++ i :: (slotNumbers.dropWhile (· < i)).tail ∧
      ∀ j ∈ slotNumbers.takeWhile (· < i), j < i := by
  revert i
  decide

theorem lowestFree_eq_some {st : FrameStore} {i : Fin 6} (hfree : (st.slot i).state = .free)
    (hlowest : ∀ j, j < i → (st.slot j).state ≠ .free) : st.lowestFree = some i := by
  obtain ⟨hlist, hearlier⟩ := slotNumbers_around i
  rw [FrameStore.lowestFree, hlist, List.find?_append, List.find?_eq_none.mpr fun j hj => by simpa using hlowest j (hearlier j hj)]
  simp [hfree]

theorem activeCopies_eq (confMin : Nat) (tracks : List TrackEntry) :
    activeCopies confMin tracks =
      (tracks.filter fun e => decide (confMin ≤ e.conf) && e.cls != .otherLight).map fun e =>
        { cls := e.cls, thetaL := e.thetaL, thetaR := e.thetaR, phiT := e.phiT, dist := e.dist, age := e.age } := by
  have hactive (e : TrackEntry) : e.isActive confMin = (decide (confMin ≤ e.conf) && e.cls != .otherLight) := by
    rw [TrackEntry.isActive]
    cases e.cls <;> rfl
  simp only [activeCopies, hactive]

/-- The lookup that a build of this state would make. -/
def buildLookup (s : State) : State × Option LookupOutcome :=
  lookupFor (selection s).mode (nextSequence s.builder.mirror.sequence) s

/-- The build that starts in a slot. -/
def newBuild (slot : Fin 6) (s : State) : Build :=
  { sequence := nextSequence s.builder.mirror.sequence, slot := slot, snapshot := takeSnapshot (buildLookup s).2 s }

theorem startBuild_restartTimer (slot : Fin 6) (s : State) :
    startBuild slot (restartTimer s) =
      { (buildLookup s).1 with
        store := s.store.claim slot
        builder := { (buildLookup s).1.builder with timer := some 0, phase := .computing (newBuild slot s) } } := by
  have hclaimed : { restartTimer s with store := (restartTimer s).store.claim slot } = s.rebuilt (some 0) (s.store.claim slot) := rfl
  have hselection : selection (s.rebuilt (some 0) (s.store.claim slot)) = selection s := rfl
  have hlookup := lookupFor_rebuilt (some 0) (s.store.claim slot) s (selection s).mode (nextSequence s.builder.mirror.sequence)
  rw [startBuild, hclaimed, hselection]
  have hsequence : (restartTimer s).builder.mirror.sequence = s.builder.mirror.sequence := rfl
  simp only [hsequence, hlookup]
  rfl

section BuildTimer

variable {s : State} {n : Nat} (ht : s.builder.timer = some n)
include ht

theorem gives_buildTimerExpiry_overrun {b : Build} (hbuild : s.builder.phase.build = some b) :
    Gives .buildTimerExpiry s (raiseFault (buildFault .buildOverrun b.sequence none) (restartTimer s)) := by
  show execBuildTimerExpiry s = _
  simp only [execBuildTimerExpiry, ht, hbuild]
  rfl

theorem gives_buildTimerExpiry_start {slot : Fin 6} (hbuild : s.builder.phase.build = none)
    (hfree : s.store.lowestFree = some slot) : Gives .buildTimerExpiry s (startBuild slot (restartTimer s)) := by
  show execBuildTimerExpiry s = _
  simp only [execBuildTimerExpiry, ht, hbuild, hfree]
  rfl

end BuildTimer

/-! ## What the bands raise (R121, R122) -/

theorem raiseNotice_diagReply (k : NoticeKind) (s : State) : (raiseNotice k s).cPort.diagReply = s.cPort.diagReply := by
  rw [raiseNotice_eq]
  dsimp only
  split <;> rfl

theorem raiseFault_diagReply (f : FaultReport) (s : State) : (raiseFault f s).cPort.diagReply = s.cPort.diagReply := by
  unfold raiseFault
  split
  · exact raiseNotice_diagReply _ _
  · rfl

/-- The report of a lamp's RED band. -/
def redReport (sequence : Nat) (lamp : Side) : FaultReport := buildFault .budgetRed sequence (some lamp)

section RaiseBand

variable (sequence : Nat) (lamp : Side) (band : BudgetBand) (s : State)

theorem raiseBand_eq :
    raiseBand sequence lamp band s =
      if (band == .red) = true then raiseFault (redReport sequence lamp) s
      else if (band == .yellow) = true then raiseNotice .budgetYellow s else s := by
  cases band <;> rfl

theorem raiseBand_summary :
    (raiseBand sequence lamp band s).diag.summary =
      if band = .red then s.diag.summary ||| FaultKind.budgetRed.bit else s.diag.summary := by
  cases band with
  | green => rfl
  | yellow => simp [raiseBand, raiseNotice_eq]
  | red =>
    cases hcapture : s.diag.capture with
    | none => simp [raiseBand, raiseFault_empty _ _ hcapture, raiseNotice_eq, buildFault]
    | some record => simp [raiseBand, raiseFault_filled _ _ _ hcapture, buildFault]

theorem raiseBand_capture :
    (raiseBand sequence lamp band s).diag.capture =
      if band = .red then
        some (s.diag.capture.elim { report := redReport sequence lamp, further := false } fun record => { record with further := true })
      else s.diag.capture := by
  cases band with
  | green => rfl
  | yellow => simp [raiseBand, raiseNotice_eq]
  | red =>
    rw [raiseBand, raiseFault_capture]
    cases s.diag.capture <;> rfl

theorem raiseBand_notices :
    (raiseBand sequence lamp band s).diag.notices =
      s.diag.notices ||| (if band = .yellow then 8#8 else 0) ||| (if band = .red ∧ s.diag.capture = none then 4#8 else 0) := by
  cases band with
  | green => simp [raiseBand]
  | yellow =>
    have hbit : NoticeKind.budgetYellow.bit = 8#8 := rfl
    simp [raiseBand, raiseNotice_eq, hbit]
  | red =>
    have hbit : NoticeKind.faultCaptured.bit = 4#8 := rfl
    cases hcapture : s.diag.capture with
    | none => simp [raiseBand, raiseFault_empty _ _ hcapture, raiseNotice_eq, hbit]
    | some record => simp [raiseBand, raiseFault_filled _ _ _ hcapture]

theorem raiseBand_diagReply : (raiseBand sequence lamp band s).cPort.diagReply = s.cPort.diagReply := by
  cases band with
  | green => rfl
  | yellow => exact raiseNotice_diagReply _ s
  | red => exact raiseFault_diagReply _ s

end RaiseBand

section RaiseBands

variable (sequence : Nat) (l r : BudgetBand) (s : State)

/-- Both lamps' bands, L before R. -/
def raisedBoth : State := raiseBand sequence .right r (raiseBand sequence .left l s)

theorem raisedBoth_summary :
    (raisedBoth sequence l r s).diag.summary =
      if (l == .red || r == .red) = true then s.diag.summary ||| FaultKind.budgetRed.bit else s.diag.summary := by
  rw [raisedBoth, raiseBand_summary, raiseBand_summary]
  by_cases hl : l = .red <;> by_cases hr : r = .red <;> simp [hl, hr, BitVec.or_assoc]

theorem raisedBoth_capture_empty (h : s.diag.capture = none) :
    (raisedBoth sequence l r s).diag.capture =
      if (l == .red) = true then some { report := redReport sequence .left, further := r == .red }
      else if (r == .red) = true then some { report := redReport sequence .right, further := false }
      else none := by
  rw [raisedBoth, raiseBand_capture, raiseBand_capture, h]
  by_cases hl : l = .red <;> by_cases hr : r = .red <;> simp [hl, hr]

theorem raisedBoth_capture_filled {c : CaptureRecord} (h : s.diag.capture = some c) :
    (raisedBoth sequence l r s).diag.capture =
      some { report := c.report, further := c.further || (l == .red || r == .red) } := by
  rw [raisedBoth, raiseBand_capture, raiseBand_capture, h]
  obtain ⟨report, further⟩ := c
  cases hl : l == .red <;> cases hr : r == .red <;> simp_all

theorem raisedBoth_notices :
    (raisedBoth sequence l r s).diag.notices =
      s.diag.notices ||| (if (l == .yellow) = true ∨ (r == .yellow) = true then 8#8 else 0) |||
        (if (l == .red || r == .red) = true ∧ s.diag.capture = none then 4#8 else 0) := by
  have hswap (n : BitVec 8) : n ||| 4#8 ||| 8#8 = n ||| 8#8 ||| 4#8 := by
    rw [BitVec.or_assoc, BitVec.or_assoc]
    rfl
  rw [raisedBoth, raiseBand_notices, raiseBand_notices, raiseBand_capture]
  cases l with
  | green => cases r <;> simp
  | yellow => cases r <;> simp [BitVec.or_assoc]
  | red =>
    by_cases hcapture : s.diag.capture = none
    · cases r <;> simp [hcapture, hswap]
    · cases r <;> simp [hcapture]

end RaiseBands

/-- The band of a lamp in the build computing. -/
def lampBand (b : Build) (s : State) (lamp : Side) : BudgetBand :=
  (lampResult (committedCal s) b.snapshot s.builder.workingCopy lamp).band

theorem afterCompute_diag (b : Build) (s : State) :
    (afterCompute b s).diag = (raisedBoth b.sequence (lampBand b s .left) (lampBand b s .right) s).diag := by
  simp only [afterCompute, raiseBands, raisedBoth, lampBand]

theorem afterCompute_cPort (b : Build) (s : State) :
    (afterCompute b s).cPort = (raisedBoth b.sequence (lampBand b s .left) (lampBand b s .right) s).cPort := by
  simp only [afterCompute, raiseBands, raisedBoth, lampBand]

/-! ## COMMIT at the port (R92) -/

/-- What the arbiter does to the store depends on the store alone. -/
theorem grant_store_congr {s u : State} (r : Requester) (a : PortAccess) (h : u.store = s.store) :
    (grant r a u).store = (grant r a s).store := by
  by_cases hdiag : a.isDiag = false
  · have hother := (isDiag_eq_false_iff a).mp hdiag
    rw [grant_access r a u hother, grant_access r a s hother, h]
  · cases a with
    | diagRead i x k =>
      by_cases hstored : (s.store.slot i).state = .stored
      · rw [grant_stored r x k hstored, grant_stored r x k (h ▸ hstored), h]
      · rw [grant_empty r x k hstored, grant_empty r x k (h ▸ hstored)]
        simp only [placeReply, h]
    | blockWrite | headerWrite | headerRead | blockRead | compare => exact absurd rfl hdiag

theorem grantNext_store_congr {s u : State} (h : u.store = s.store) : (grantNext u).store = (grantNext s).store := by
  by_cases hbusy : s.store.busy.isSome = true
  · rw [grantNext_busy s hbusy, grantNext_busy u (h ▸ hbusy), h]
  · cases hnext : s.store.nextGrant with
    | none => rw [grantNext_none s hnext, grantNext_none u (h ▸ hnext), h]
    | some p =>
      rw [Option.not_isSome_iff_eq_none] at hbusy
      rw [grantNext_some s p.1 p.2 hbusy hnext, grantNext_some u p.1 p.2 (h ▸ hbusy) (h ▸ hnext)]
      exact grant_store_congr _ _ h

theorem requestPort_store_congr {s u : State} (r : Requester) (a : PortAccess) (h : u.store = s.store) :
    (requestPort r a u).store = (requestPort r a s).store :=
  grantNext_store_congr (grantNext_store_congr (by simp only [h]))

/-- With no diagnostic read to be granted, the arbiter answers none. -/
theorem arbitrate_cPort_of_noDiag {s : State} (h : NoDiagAtIdlePort s.store) : (arbitrate s).cPort = s.cPort := by
  rcases h with hbusy | hnone
  · rw [arbitrate_busy hbusy]
  · have hkept : (arbitrate s).cPort = s.cPort ∧ ∀ r, ∀ a ∈ (arbitrate s).store.waiting r, a.isDiag = false := by
      refine arbitrate_induction (P := fun v => v.cPort = s.cPort ∧ ∀ r, ∀ a ∈ v.store.waiting r, a.isDiag = false)
        (fun v r a _ hwaiting hv => ?_) ⟨rfl, hnone⟩
      obtain ⟨hport, hdiag⟩ := hv
      have hother := (isDiag_eq_false_iff a).mp (hdiag r a hwaiting)
      refine ⟨?_, fun q b hb => ?_⟩
      · rw [grant_access r a v hother]
        exact hport
      · rw [waiting_grant] at hb
        split at hb
        · cases hb
        · exact hdiag q b hb
    exact hkept.1

theorem requestPort_cPort (r : Requester) (a : PortAccess) (s : State) :
    (requestPort r a s).cPort = { s.cPort with diagReply := (requestPort r a s).cPort.diagReply } := arbitrate_cPort _

theorem requestPort_cPort_of_noDiag {s : State} {r : Requester} {a : PortAccess} (ha : a.isDiag = false)
    (h : NoDiagAtIdlePort s.store) : (requestPort r a s).cPort = s.cPort := by
  refine arbitrate_cPort_of_noDiag (s := { s with store := s.store.setWaiting r (some a) }) ?_
  refine h.imp (fun hbusy => by simpa using hbusy) fun hnone q b hb => ?_
  by_cases hq : q = r
  · subst hq
    rw [waiting_setWaiting] at hb
    cases hb
    exact ha
  · rw [waiting_setWaiting_ne hq] at hb
    exact hnone q b hb

/-! ## COMPUTE_COMPLETE (R91) -/

theorem gives_computeComplete {s : State} {b : Build} (hphase : s.builder.phase = .computing b) :
    Gives .computeComplete s (requestPort .commit (commitWrite 0) (afterCompute b s)) := by
  show execComputeComplete s = _
  simp only [execComputeComplete, hphase, afterCompute, raiseBands]
  rfl

/-- Table 6-2. -/
theorem committedMode_fields (snap : Snapshot) (workingCopy : Option (List Nat)) :
    let fixed := committedMode snap workingCopy
    if snap.selection.mode = .low ∨ snap.selection.mode = .dark then
      fixed.mode = snap.selection.mode ∧ fixed.reason = snap.selection.reason ∧ fixed.held = false
    else if snap.lookup = some .hit then
      fixed.mode = snap.selection.mode ∧ fixed.reason = snap.selection.reason ∧ fixed.held = false
    else if workingCopy.isSome = true then
      fixed.mode = snap.selection.mode ∧ fixed.reason = snap.selection.reason ∧ fixed.held = true
    else fixed.mode = .low ∧ fixed.reason = .distMissing ∧ fixed.held = false := by
  unfold committedMode
  simp only [needsDist_eq_false_iff]
  split
  · exact ⟨rfl, rfl, rfl⟩
  · split
    · exact ⟨rfl, rfl, rfl⟩
    · split <;> exact ⟨rfl, rfl, rfl⟩

theorem length_buildFrame (c : CalSet) (snap : Snapshot) (workingCopy : Option (List Nat)) (sequence : Nat) (lamp : Side) :
    ((buildFrame c snap workingCopy sequence).values lamp).length = 120 := by
  rw [buildFrame_values, lampResult]
  dsimp only
  have hlength := length_risenValues (lampInputs c snap workingCopy lamp)
  unfold budgetValues
  split
  · rw [List.length_map, hlength]
  · exact hlength

end Sys2Proof.Machine

namespace Sys2Proof.Proofs

open Sys2Proof.Machine

/-- Settles O28: the lookup neither reads nor writes the builder's timer and the slot table, so it is the one the state itself would make. -/
theorem buildTimerStartsOrSkips : Obligations.BuildTimerStartsOrSkips := by
  refine ⟨by decide, fun s n ht => ⟨fun b hbuild => gives_buildTimerExpiry_overrun ht hbuild, fun i hbuild hfree hlowest => ?_⟩⟩
  have hlookup : ∃ copy, (buildLookup s).1.builder = { s.builder with workingCopy := copy } := lookupFor_builder _ _ s
  obtain ⟨copy, hcopy⟩ := hlookup
  refine ⟨_, newBuild i s, gives_buildTimerExpiry_start ht hbuild (lowestFree_eq_some hfree hlowest), ?_⟩
  rw [startBuild_restartTimer]
  refine ⟨rfl, rfl, by rw [hcopy], rfl, rfl, rfl, activeCopies_eq _ _, rfl, rfl, rfl, rfl, rfl, rfl, rfl, rfl, rfl, ?_, ?_⟩
  · cases hdist : modeDist (selection s).mode with
    | none =>
      have hnone : buildLookup s = (s, none) := by simp only [buildLookup, lookupFor, hdist]
      simp only [newBuild, takeSnapshot, hnone]
      exact ⟨trivial, trivial, trivial, trivial, trivial⟩
    | some p =>
      have hsome : buildLookup s =
          ((lookup ((committedCal s).nat p) (nextSequence s.builder.mirror.sequence) s).1,
            some (lookup ((committedCal s).nat p) (nextSequence s.builder.mirror.sequence) s).2) := by
        simp only [buildLookup, lookupFor, hdist]
      simp only [newBuild, takeSnapshot, hsome]
      exact ⟨trivial, trivial, trivial, trivial, trivial⟩
  · simp [buildLookup]

/-- Settles O29: after the frame is fixed, what is raised is decided by the two bands, which the header's flags give. -/
theorem computeCompleteFixesTheFrame : Obligations.ComputeCompleteFixesTheFrame := by
  intro s b hphase hwaiting haccess
  let f := buildFrame (committedCal s) b.snapshot s.builder.workingCopy b.sequence
  have hstore : (afterCompute b s).store = s.store := by simp
  have hview : Views .commit (CommitView none) (afterCompute b s) :=
    Views.of_store ((commitView_none_iff _ _).mpr ⟨hwaiting, haccess⟩) hstore
  have hasks : CommitAsks (requestPort .commit (commitWrite 0) (afterCompute b s)).store 0 := Views.commit_requested hview 0
  have hcopied : (requestPort .commit (commitWrite 0) (afterCompute b s)).store =
      (requestPort .commit (.blockWrite .left 0) s).store := requestPort_store_congr _ _ hstore
  have hbands (band : BudgetBand) : ¬((band == .yellow) = true ∧ (band == .red) = true) := by cases band <;> decide
  have hdiag : (requestPort .commit (commitWrite 0) (afterCompute b s)).diag =
      (raisedBoth b.sequence (lampBand b s .left) (lampBand b s .right) s).diag := by
    simp only [requestPort_frame]
    exact afterCompute_diag b s
  have hport := afterCompute_cPort b s
  have hclampedL : f.header.clampedL = (lampBand b s .left == .red) := rfl
  have hclampedR : f.header.clampedR = (lampBand b s .right == .red) := rfl
  have hyellowL : f.header.yellowL = (lampBand b s .left == .yellow) := rfl
  have hyellowR : f.header.yellowR = (lampBand b s .right == .yellow) := rfl
  generalize lampBand b s .left = l at hdiag hport hclampedL hyellowL
  generalize lampBand b s .right = r at hdiag hport hclampedR hyellowR
  have hraised := (raiseBand_eq b.sequence .right r (raiseBand b.sequence .left l s)).trans
    (by rw [raiseBand_eq b.sequence .left l s])
  refine ⟨requestPort .commit (commitWrite 0) (afterCompute b s), f, gives_computeComplete hphase, ?builder, hasks, ?slots, hcopied,
    rfl, rfl, length_buildFrame _ _ _ _ .left, length_buildFrame _ _ _ _ .right, committedMode_fields _ _, rfl,
    by rw [hyellowL, hclampedL]; exact hbands l, by rw [hyellowR, hclampedR]; exact hbands r, ?raised, ?kept⟩
  case builder =>
    simp only [requestPort_frame]
    exact afterCompute_builder b s
  case slots => rw [requestPort_slots, hstore]
  case kept => simp
  case raised =>
    rw [hclampedL, hclampedR, hyellowL, hyellowR, hdiag]
    refine ⟨raisedBoth_summary b.sequence l r s, raisedBoth_capture_empty b.sequence l r s,
      fun c hc => raisedBoth_capture_filled b.sequence l r s hc, raisedBoth_notices b.sequence l r s, ?_, ?_, fun hno => ?_⟩
    · exact congrArg State.diag hraised
    · have hkept := requestPort_cPort .commit (commitWrite 0) (afterCompute b s)
      rw [hport, raisedBoth, hraised] at hkept
      exact hkept
    · rw [requestPort_cPort_of_noDiag rfl (by rw [hstore]; exact hno), hport, raisedBoth, raiseBand_diagReply, raiseBand_diagReply]

/-- Settles O30. -/
theorem commitBlockWriteStoresItsBlock : Obligations.CommitBlockWriteStoresItsBlock := by
  refine ⟨rfl, fun s b f n w lamp k hphase hbusy hr ha hwaiting => ?_⟩
  let v := afterBlockWrite b f n lamp k s
  have hgives : Gives .commitBlockWriteDone s (requestPort .commit (commitWrite (n + 1)) (releasePort v)) := by
    show execCommitBlockWriteDone s = _
    obtain ⟨requester, access, wanted, found⟩ := w
    subst hr ha
    have haccess := accessOf_eq_some.mpr ⟨hbusy, rfl⟩
    simp only [execCommitBlockWriteDone, haccess, hphase]
    rfl
  have hslots : (requestPort .commit (commitWrite (n + 1)) (releasePort v)).store.slots = v.store.slots := by simp
  have hslot (i : Fin 6) : (requestPort .commit (commitWrite (n + 1)) (releasePort v)).store.slot i =
      if i = b.slot then
        { s.store.slot b.slot with memory := (s.store.slot b.slot).memory.writeBlock lamp k (blockValues (f.values lamp) k) }
      else s.store.slot i := (slot_withSlots hslots i).trans (slot_afterBlockWrite b f n lamp k s i)
  have hasks : CommitAsks (requestPort .commit (commitWrite (n + 1)) (releasePort v)).store (n + 1) :=
    Views.commit_requested (Views.commit_released (s := v) hwaiting) (n + 1)
  refine ⟨_, v, hgives, by simp [v, afterBlockWrite], rfl, hslots, rfl, hasks, ?_, fun i x j hother => ?_, fun i => ?_, ?_⟩
  · rw [hslot, if_pos rfl]
    dsimp only
    rw [block_writeBlock, if_pos ⟨rfl, rfl⟩, blockValues]
    simp only [Nat.add_assoc]
  · rw [hslot]
    split
    next hi =>
      dsimp only
      rw [block_writeBlock, if_neg fun h => hother hi h.1 h.2, hi]
    next => rfl
  · rw [hslot]
    split
    next hi =>
      subst hi
      exact ⟨header_writeBlock _ _ _ _, rfl, rfl, rfl, rfl⟩
    next => exact ⟨rfl, rfl, rfl, rfl, rfl⟩
  · simp [v, afterBlockWrite, requestPort_frame]

end Sys2Proof.Proofs
end

section
/-! SUPPORT. The lamp links through every command (Chapter 8, R136, R137, R139, R142, R146): what a link may ask the port for at each
step of its transfer, the record of a link, each change of a link, and then the proof of the statement. -/

namespace Sys2Proof.Machine

/-! ## A link's place at the port -/

/-- What a link waits for, or is making with its result wanted. -/
def linkAsking (w : Option PortAccess) (u : Option PortUse) : Option PortAccess := w.or ((u.filter (·.wanted)).map (·.access))

theorem linkAsking_wanted {v : PortUse} (h : v.wanted = true) : linkAsking none (some v) = some v.access := by
  simp [linkAsking, Option.filter, h]

/-- A link asks for one thing at most, and what it asks for is as `P` says. -/
def LinkView (P : Option PortAccess → Prop) (w : Option PortAccess) (u : Option PortUse) : Prop :=
  (w = none ∨ ∀ v ∈ u, v.wanted = false) ∧ P (linkAsking w u)

theorem linkView_stable {r : Requester} {P : Option PortAccess → Prop} (hP : ∀ a, P (some a) → a.isDiag = false) :
    GrantStable r (LinkView P) where
  other a u h := hP a (by simpa [linkAsking] using h.2)
  granted a h := by
    refine ⟨.inl rfl, ?_⟩
    rw [linkAsking_wanted rfl]
    simpa [linkAsking] using h.2

/-- A link that asks for nothing. -/
def Unasked (w : Option PortAccess) (u : Option PortUse) : Prop := LinkView (· = none) w u

theorem unasked_iff (w : Option PortAccess) (u : Option PortUse) : Unasked w u ↔ w = none ∧ ∀ v ∈ u, v.wanted = false := by
  constructor
  · rintro ⟨-, hnone⟩
    cases w with
    | some a => cases hnone
    | none =>
      refine ⟨rfl, fun v hv => ?_⟩
      rw [Option.mem_def] at hv
      subst hv
      cases hwanted : v.wanted with
      | false => rfl
      | true => simp [linkAsking, hwanted] at hnone
  · rintro ⟨rfl, hunwanted⟩
    refine ⟨.inl rfl, ?_⟩
    cases u with
    | none => rfl
    | some v => simp [linkAsking, hunwanted v rfl]

theorem unasked_stable (r : Requester) : GrantStable r Unasked := linkView_stable (P := (· = none)) fun a h => by cases h

theorem LinkView.of_unasked {P : Option PortAccess → Prop} {w : Option PortAccess} {u : Option PortUse} (h : Unasked w u)
    (hP : P none) : LinkView P w u := by
  obtain ⟨hone, hnone⟩ := h
  exact ⟨hone, by rwa [hnone]⟩

/-- A link that asked for nothing asks. -/
theorem LinkView.asked {P : Option PortAccess → Prop} {w : Option PortAccess} {u : Option PortUse} {a : PortAccess}
    (h : Unasked w u) (hP : P (some a)) : LinkView P (some a) u := by
  obtain ⟨-, hunwanted⟩ := (unasked_iff w u).mp h
  exact ⟨.inr hunwanted, by simpa [linkAsking] using hP⟩

/-- While a link makes a wanted access it waits for nothing, and the access is what it asks for. -/
theorem LinkView.wanted {P : Option PortAccess → Prop} {w : Option PortAccess} {v : PortUse} (h : LinkView P w (some v))
    (hv : v.wanted = true) : w = none ∧ P (some v.access) := by
  obtain ⟨hone, hasks⟩ := h
  rcases hone with rfl | hunwanted
  · rw [linkAsking_wanted hv] at hasks
    exact ⟨rfl, hasks⟩
  · rw [hunwanted v rfl] at hv
    cases hv

section Unasked

variable {x : Side} {s : State}

theorem Views.unasked_released (hwaiting : s.store.waiting (linkRequester x) = none) :
    Views (linkRequester x) Unasked (Machine.releasePort s) :=
  Views.released ((unasked_iff _ _).mpr ⟨hwaiting, by simp⟩) (unasked_stable _)

/-- A link whose request is withdrawn asks for nothing. -/
theorem Views.unasked_withdrawn {u : State}
    (hwaiting : u.store.waiting (linkRequester x) = (s.store.withdrawLink x).waiting (linkRequester x))
    (hbusy : u.store.busy = (s.store.withdrawLink x).busy) : Views (linkRequester x) Unasked u := by
  refine (unasked_iff _ _).mpr ⟨by rw [hwaiting, waiting_withdrawLink, if_pos rfl], fun v hv => ?_⟩
  rw [accessOf_congr _ hbusy, accessOf_withdrawLink_self] at hv
  obtain ⟨w, -, rfl⟩ := Option.mem_map.mp hv
  rfl

/-- A link that asked for nothing asks for an access. -/
theorem Views.link_requested {P : Option PortAccess → Prop} {a : PortAccess} (h : Views (linkRequester x) Unasked s)
    (hP : P (some a)) (hother : ∀ b, P (some b) → b.isDiag = false) :
    Views (linkRequester x) (LinkView P) (Machine.requestPort (linkRequester x) a s) :=
  Views.requested (LinkView.asked h hP) (linkView_stable hother)

end Unasked

/-! ## What a link's step asks for (R131, R144, R146) -/

/-- What a link may ask for at the current step of its transfer. -/
def LampLink.Work (x : Side) (l : LampLink) (o : Option PortAccess) : Prop :=
  match l.transfer with
  | none => o = none
  | some t =>
    match t.step with
    | .compare => ∃ a ∈ l.applied, ∃ k : Fin 5, o = some (.compare t.slot a.slot x k) ∧ ∀ j ∈ t.map, j < k
    | .header => o = none ∨ o = some (.headerRead t.slot)
    | .block k => o = none ∨ o = some (.blockRead t.slot x k)
    | .finish => o = none

section Work

variable {x : Side} {l : LampLink} {t : Transfer}

theorem work_idle (ht : l.transfer = none) (o : Option PortAccess) : l.Work x o ↔ o = none := by simp only [LampLink.Work, ht]

theorem work_compare (ht : l.transfer = some t) (hstep : t.step = .compare) (o : Option PortAccess) :
    l.Work x o ↔ ∃ a ∈ l.applied, ∃ k : Fin 5, o = some (.compare t.slot a.slot x k) ∧ ∀ j ∈ t.map, j < k := by
  simp only [LampLink.Work, ht, hstep]

theorem work_header (ht : l.transfer = some t) (hstep : t.step = .header) (o : Option PortAccess) :
    l.Work x o ↔ o = none ∨ o = some (.headerRead t.slot) := by
  simp only [LampLink.Work, ht, hstep]

theorem work_block {k : Fin 5} (ht : l.transfer = some t) (hstep : t.step = .block k) (o : Option PortAccess) :
    l.Work x o ↔ o = none ∨ o = some (.blockRead t.slot x k) := by
  simp only [LampLink.Work, ht, hstep]

theorem work_finish (ht : l.transfer = some t) (hstep : t.step = .finish) (o : Option PortAccess) : l.Work x o ↔ o = none := by
  simp only [LampLink.Work, ht, hstep]

theorem work_congr {l' : LampLink} (htransfer : l'.transfer = l.transfer) (happlied : l'.applied = l.applied)
    {o : Option PortAccess} : l'.Work x o ↔ l.Work x o := by
  unfold LampLink.Work
  rw [htransfer, happlied]

/-- Outside COMPARE a link may ask for nothing. -/
theorem work_none (hstep : ∀ t ∈ l.transfer, t.step ≠ .compare) : l.Work x none := by
  cases ht : l.transfer with
  | none => exact (work_idle ht _).mpr rfl
  | some t =>
    cases h : t.step with
    | compare => exact absurd h (hstep t ht)
    | header => exact (work_header ht h _).mpr (.inl rfl)
    | block k => exact (work_block ht h _).mpr (.inl rfl)
    | finish => exact (work_finish ht h _).mpr rfl

/-- Only COMPARE asks for a compare. -/
theorem step_of_work {a : PortAccess} (h : l.Work x (some a)) (ha : ∀ i j y k, a ≠ .compare i j y k) :
    ∀ t ∈ l.transfer, t.step ≠ .compare := by
  intro t ht hstep
  obtain ⟨hold, -, k, hask, -⟩ := (work_compare ht hstep _).mp h
  exact ha _ _ _ _ (Option.some.inj hask)

theorem work_isDiag {a : PortAccess} (h : l.Work x (some a)) : a.isDiag = false := by
  cases ht : l.transfer with
  | none => cases (work_idle ht _).mp h
  | some t =>
    cases hstep : t.step with
    | compare =>
      obtain ⟨hold, -, k, hask, -⟩ := (work_compare ht hstep _).mp h
      cases hask
      rfl
    | header =>
      rcases (work_header ht hstep _).mp h with hask | hask <;> cases hask
      rfl
    | block k =>
      rcases (work_block ht hstep _).mp h with hask | hask <;> cases hask
      rfl
    | finish => cases (work_finish ht hstep _).mp h

end Work

theorem work_stable (x : Side) (l : LampLink) (r : Requester) : GrantStable r (LinkView (l.Work x)) :=
  linkView_stable fun _ => work_isDiag

/-! ## One link's invariant -/

/-- A link's record and its place at the port. -/
def LinkOk (x : Side) (s : State) : Prop := (s.link x).FieldsOk ∧ Views (linkRequester x) (LinkView ((s.link x).Work x)) s

theorem linkWork_iff (s : State) (x : Side) : LinkWork s x ↔ (s.link x).Work x (s.store.linkAsks x) := by
  unfold LinkWork LampLink.Work
  cases (s.link x).transfer with
  | none => exact Iff.rfl
  | some t =>
    dsimp only
    cases t.step <;> exact Iff.rfl

theorem linksInv_iff (s : State) : LinksInv s ↔ ∀ x, LinkOk x s := by
  constructor
  · rintro ⟨hleft, hright, honeL, honeR, hworkL, hworkR⟩ x
    cases x with
    | left => exact ⟨hleft, honeL, (linkWork_iff s .left).mp hworkL⟩
    | right => exact ⟨hright, honeR, (linkWork_iff s .right).mp hworkR⟩
  · intro h
    obtain ⟨hleft, honeL, hworkL⟩ := h .left
    obtain ⟨hright, honeR, hworkR⟩ := h .right
    exact ⟨hleft, hright, honeL, honeR, (linkWork_iff s .left).mpr hworkL, (linkWork_iff s .right).mpr hworkR⟩

section LinkOk

variable {x : Side} {s u : State}

/-- Nothing of the link changes, and its place at the port is kept. -/
theorem LinkOk.of_views (h : LinkOk x s) (hlink : u.link x = s.link x)
    (hviews : Views (linkRequester x) (LinkView ((s.link x).Work x)) u) : LinkOk x u := by
  rw [LinkOk, hlink]
  exact ⟨h.1, hviews⟩

theorem LinkOk.of_same (h : LinkOk x s) (hlink : u.link x = s.link x) (hstore : u.store = s.store) : LinkOk x u :=
  h.of_views hlink (h.2.of_store hstore)

/-- The record changes in fields that no step's work depends on. -/
theorem LinkOk.of_record (h : LinkOk x s) (hfields : (u.link x).FieldsOk) (htransfer : (u.link x).transfer = (s.link x).transfer)
    (happlied : (u.link x).applied = (s.link x).applied) (hstore : u.store = s.store) : LinkOk x u := by
  have hwork : (u.link x).Work x = (s.link x).Work x := funext fun _ => propext (work_congr htransfer happlied)
  exact ⟨hfields, hwork ▸ h.2.of_store hstore⟩

/-- A link that asks for nothing, outside COMPARE. -/
theorem linkOk_unasked (hfields : (s.link x).FieldsOk) (hstep : ∀ t ∈ (s.link x).transfer, t.step ≠ .compare)
    (h : Views (linkRequester x) Unasked s) : LinkOk x s := ⟨hfields, LinkView.of_unasked h (work_none hstep)⟩

end LinkOk

/-! ## A link's record (Table 8-2) -/

section Fields

variable {l : LampLink}

theorem LampLink.FieldsOk.up_of_transfer (h : l.FieldsOk) {t : Transfer} (ht : l.transfer = some t) : l.state = .up := by
  obtain ⟨hstate, -⟩ := h
  cases hl : l.state with
  | up => rfl
  | down =>
    simp only [LampLink.StateOk, hl] at hstate
    obtain ⟨-, -, -, -, -, hnone, -⟩ := hstate
    cases ht.symm.trans hnone

theorem stateOk_down (h : l.state = .down) :
    l.StateOk ↔ l.statusTimer = none ∧ l.temp = none ∧ l.supplyOk = none ∧ l.dead = [] ∧ l.deadLimitFlag = false ∧
      l.transfer = none ∧ l.applied = none := by
  simp only [LampLink.StateOk, h]

theorem stateOk_up (h : l.state = .up) :
    l.StateOk ↔ (∃ n ∈ l.statusTimer, n < 300) ∧ (∃ c ∈ l.temp, -40 ≤ c ∧ c ≤ 150) ∧ l.supplyOk.isSome = true := by
  simp only [LampLink.StateOk, h]

/-- The fields of the transfer, the holds, the tag and the wire do not bear on the state of an UP link. -/
theorem LampLink.StateOk.up_congr {l' : LampLink} (h : l.StateOk) (hup : l.state = .up) (hstate : l'.state = l.state)
    (htimer : l'.statusTimer = l.statusTimer) (htemp : l'.temp = l.temp) (hsupply : l'.supplyOk = l.supplyOk) : l'.StateOk := by
  rw [stateOk_up (hstate.trans hup), htimer, htemp, hsupply]
  exact (stateOk_up hup).mp h

theorem LampLink.FieldsOk.send (h : l.FieldsOk) (bytes : List Byte) : (l.send bytes).FieldsOk := by
  obtain ⟨hstate, hdead, hsegments, hlength, htag, hrecord, hwire⟩ := h
  unfold LampLink.send
  split
  next hnone => exact ⟨hstate, hdead, hsegments, hlength, htag, hrecord, fun h => by cases h⟩
  next b hsome => exact ⟨hstate, hdead, hsegments, hlength, htag, hrecord, fun h => by cases hsome.symm.trans h⟩

/-- A frame's end on the wire. -/
theorem LampLink.FieldsOk.wireFreed (h : l.FieldsOk) : ({ l with wire := l.waiting, waiting := none } : LampLink).FieldsOk := by
  obtain ⟨hstate, hdead, hsegments, hlength, htag, hrecord, -⟩ := h
  exact ⟨hstate, hdead, hsegments, hlength, htag, hrecord, fun _ => rfl⟩

/-- A new transfer record on an UP link. -/
theorem LampLink.FieldsOk.withTransfer (h : l.FieldsOk) (hup : l.state = .up) {t : Transfer} (ht : t.RecordOk l.tagCounter) :
    ({ l with transfer := some t } : LampLink).FieldsOk := by
  obtain ⟨hstate, hdead, hsegments, hlength, htag, -, hwire⟩ := h
  exact ⟨hstate.up_congr hup rfl rfl rfl rfl, hdead, hsegments, hlength, htag, fun t' ht' => by cases ht'; exact ht, hwire⟩

/-- The record at the start of an attempt. -/
theorem LampLink.FieldsOk.ready (h : l.FieldsOk) (hup : l.state = .up) {t : Transfer}
    (ht : ({ t with replyTimer := some 0 } : Transfer).RecordOk l.tagCounter) : (l.ready t).FieldsOk := by
  obtain ⟨hstate, hdead, hsegments, hlength, htag, hrecord, -⟩ := h.withTransfer hup ht
  exact ⟨hstate, hdead, hsegments, hlength, htag, hrecord, fun _ => rfl⟩

/-- The record with the transfer at its end, and whichever applied hold. -/
theorem LampLink.FieldsOk.ended (h : l.FieldsOk) (applied : Option AppliedHold) (happlied : l.state = .down → applied = none) :
    ({ l with transfer := none, applied := applied, waiting := none } : LampLink).FieldsOk := by
  obtain ⟨hstate, hdead, hsegments, hlength, htag, -, -⟩ := h
  refine ⟨?_, hdead, hsegments, hlength, htag, fun t ht => (by cases ht), fun _ => rfl⟩
  cases hl : l.state with
  | up => exact hstate.up_congr hl hl.symm rfl rfl rfl
  | down =>
    obtain ⟨htimer, htemp, hsupply, hnodead, hflag, -, -⟩ := (stateOk_down hl).mp hstate
    exact (stateOk_down rfl).mpr ⟨htimer, htemp, hsupply, hnodead, hflag, rfl, happlied hl⟩

theorem LampLink.FieldsOk.applied_of_down (h : l.FieldsOk) (hl : l.state = .down) : l.applied = none := by
  obtain ⟨hstate, -⟩ := h
  obtain ⟨-, -, -, -, -, -, happlied⟩ := (stateOk_down hl).mp hstate
  exact happlied

/-- The record of a link lost. -/
theorem LampLink.FieldsOk.lost (h : l.FieldsOk) :
    ({ l with
        state := .down, statusTimer := none, temp := none, supplyOk := none, dead := [], deadLimitFlag := false
        transfer := none, applied := none, waiting := none } : LampLink).FieldsOk := by
  obtain ⟨-, -, -, -, htag, -, -⟩ := h
  exact ⟨(stateOk_down rfl).mpr ⟨rfl, rfl, rfl, rfl, rfl, rfl, rfl⟩, List.Pairwise.nil, fun i hi => (by cases hi), Nat.zero_le _, htag,
    fun t ht => (by cases ht), fun _ => rfl⟩

/-- The next tag, with the transfer of the former tag in no record. -/
theorem LampLink.FieldsOk.nextTag (h : l.FieldsOk) (hup : l.state = .up) {t : Transfer}
    (ht : t.RecordOk ((l.tagCounter + 1) % 16)) :
    ({ l with tagCounter := (l.tagCounter + 1) % 16, waiting := none, transfer := some t } : LampLink).FieldsOk := by
  obtain ⟨hstate, hdead, hsegments, hlength, -, -, -⟩ := h
  exact ⟨hstate.up_congr hup rfl rfl rfl rfl, hdead, hsegments, hlength, Nat.mod_lt _ (by decide),
    fun t' ht' => by cases ht'; exact ht, fun _ => rfl⟩

theorem mem_deadSet (entries : List Nat) (i : Nat) : i ∈ deadSet entries ↔ i < 120 ∧ i ∈ entries := by simp [deadSet]

theorem deadSet_pairwise (entries : List Nat) : (deadSet entries).Pairwise (· < ·) := List.pairwise_lt_range.filter _

theorem length_deadSet_le (entries : List Nat) : (deadSet entries).length ≤ entries.length :=
  (List.nodup_range.filter _).length_le_of_subset fun i hi => ((mem_deadSet entries i).mp hi).2

theorem lampState_length {bytes : List Byte} {temp : Int} {ok : Bool} {entries : List Nat}
    (h : lampFrame bytes = some (.lampState temp ok entries)) : entries.length ≤ 16 := by
  unfold lampFrame at h
  split at h
  next =>
    unfold lampFrameOf at h
    split at h
    case h_1 =>
      split at h
      next hlen =>
        cases h
        rw [List.length_map, List.length_drop]
        omega
      next => cases h
    case h_6 => cases h
    all_goals
      split at h
      · cases h
      · cases h
  next => cases h

/-- The record after a LAMP_STATE. -/
theorem LampLink.FieldsOk.reported (h : l.FieldsOk) (limit : Nat) (temp : Int) (ok : Bool) {entries : List Nat}
    (hentries : entries.length ≤ 16) : (l.reported limit temp ok entries).FieldsOk := by
  obtain ⟨-, -, -, -, htag, hrecord, hwire⟩ := h
  refine ⟨(stateOk_up rfl).mpr ⟨⟨0, rfl, by decide⟩, ⟨_, rfl, ?_⟩, rfl⟩, deadSet_pairwise entries,
    fun i hi => ((mem_deadSet entries i).mp hi).1, (length_deadSet_le entries).trans hentries, htag, hrecord, hwire⟩
  rw [clamp_eq temp (by decide)]
  omega

/-- One millisecond of a link's timers. -/
theorem LampLink.FieldsOk.ticked (h : l.FieldsOk) : (advanceLink l).FieldsOk := by
  obtain ⟨hstate, hdead, hsegments, hlength, htag, hrecord, hwire⟩ := h
  refine ⟨?_, hdead, hsegments, hlength, htag, fun t ht => ?_, hwire⟩
  · cases hl : l.state with
    | up =>
      obtain ⟨⟨n, hn, hlt⟩, htemp, hsupply⟩ := (stateOk_up hl).mp hstate
      obtain ⟨m, hm, -, hmlt⟩ := exists_advance (limit := Config.statusLimit) hn hlt
      exact (stateOk_up (l := advanceLink l) hl).mpr ⟨⟨m, hm, hmlt⟩, htemp, hsupply⟩
    | down =>
      obtain ⟨htimer, htemp, hsupply, hnodead, hflag, hnone, happlied⟩ := (stateOk_down hl).mp hstate
      exact (stateOk_down (l := advanceLink l) hl).mpr
        ⟨by simp [advanceLink, htimer, advance], htemp, hsupply, hnodead, hflag, by simp [advanceLink, hnone], happlied⟩
  · obtain ⟨t', ht', rfl⟩ := Option.mem_map.mp ht
    obtain ⟨htag', hretries, htimer, hlt, hmap, hblock, hsame⟩ := hrecord t' ht'
    refine ⟨htag', hretries, ?_, advance_lt (limit := Config.replyLimit) hlt, hmap, hblock, hsame⟩
    exact Iff.trans (by simp [advance]) htimer

end Fields

/-! ## A link's own changes -/

section OwnChanges

variable {x : Side} {s : State}

/-- An attempt of a step begins. -/
theorem linkOk_attempt {t : Transfer} (hready : ((s.link x).ready t).FieldsOk) : LinkOk x (beginAttempt x t s) := by
  have hstep : t.step ≠ .compare := by
    obtain ⟨-, -, -, -, -, hrecord, -⟩ := id hready
    obtain ⟨-, -, htimer, -⟩ := hrecord _ rfl
    exact fun h => by cases htimer.mpr h
  have hlink := attemptReady_link x t s
  have hunasked : Views (linkRequester x) Unasked (attemptReady x t s) :=
    Views.unasked_withdrawn (s := s) (by rw [attemptReady_store]) (by rw [attemptReady_store])
  have htransfer : ((s.link x).ready t).transfer = some { t with replyTimer := some 0 } := rfl
  rw [beginAttempt_eq]
  cases h : t.step with
  | compare => exact absurd h hstep
  | header =>
    have hasked : ((s.link x).ready t).Work x (some (.headerRead t.slot)) := (work_header htransfer h _).mpr (.inr rfl)
    refine ⟨?_, ?_⟩
    · rw [link_requestPort, hlink]
      exact hready
    · rw [link_requestPort, hlink]
      exact hunasked.link_requested hasked fun _ => work_isDiag
  | block k =>
    have hasked : ((s.link x).ready t).Work x (some (.blockRead t.slot x k)) := (work_block htransfer h _).mpr (.inr rfl)
    refine ⟨?_, ?_⟩
    · rw [link_requestPort, hlink]
      exact hready
    · rw [link_requestPort, hlink]
      exact hunasked.link_requested hasked fun _ => work_isDiag
  | finish =>
    refine linkOk_unasked ?_ ?_ (hunasked.of_store (by simp [sendOnLink]))
    · rw [sendOnLink_link, hlink]
      exact hready.send _
    · rw [sendOnLink_link, hlink, send_transfer]
      intro t' ht'
      cases ht'
      exact hstep

theorem linkOk_beginAttempt (hfields : (s.link x).FieldsOk) (hup : (s.link x).state = .up) {t : Transfer}
    (ht : ({ t with replyTimer := some 0 } : Transfer).RecordOk (s.link x).tagCounter) : LinkOk x (beginAttempt x t s) :=
  linkOk_attempt (hfields.ready hup ht)

theorem linkOk_abandonTransfer (h : (s.link x).FieldsOk) : LinkOk x (abandonTransfer x s) := by
  refine linkOk_unasked ?_ ?_ (Views.unasked_withdrawn (s := s) ?_ ?_)
  · rw [abandonTransfer_link]
    exact h.ended _ h.applied_of_down
  · rw [abandonTransfer_link]
    rintro t ⟨⟩
  · rw [abandonTransfer_store_eq]
    exact waiting_withSlots _ _ _
  · rw [abandonTransfer_store_eq]

theorem linkOk_completeTransfer (h : (s.link x).FieldsOk) (hup : (s.link x).state = .up) (t : Transfer) :
    LinkOk x (completeTransfer x t s) := by
  refine linkOk_unasked ?_ ?_ (Views.unasked_withdrawn (s := s) ?_ ?_)
  · rw [completeTransfer_link]
    exact h.ended _ fun hdown => by cases hup.symm.trans hdown
  · rw [completeTransfer_link]
    rintro t ⟨⟩
  · rw [completeTransfer_store_eq]
    exact waiting_withSlots _ _ _
  · rw [completeTransfer_store_eq]

theorem linkOk_linkLost (h : (s.link x).FieldsOk) : LinkOk x (linkLost x s) := by
  refine linkOk_unasked ?_ ?_ (Views.unasked_withdrawn (s := s) ?_ ?_)
  · rw [linkLost_link]
    exact h.lost
  · rw [linkLost_link]
    rintro t ⟨⟩
  · rw [linkLost_store_eq]
    exact waiting_withSlots _ _ _
  · rw [linkLost_store_eq]

theorem allBlocks_pairwise : allBlocks.Pairwise (· < ·) := by decide

theorem agreedBase_applied {l : LampLink} {applied : Nat} {full absent : Bool} {a : AppliedHold}
    (h : agreedBase l applied full absent = some a) : l.applied = some a := by
  unfold agreedBase at h
  split at h
  next b hb =>
    split at h
    · cases h
      exact hb
    · cases h
  next => cases h

theorem linkOk_startTransfer (h : (s.link x).FieldsOk) (hup : (s.link x).state = .up) (n : Fin 6) (applied : Nat)
    (full absent : Bool) : LinkOk x (startTransfer x n applied full absent s) := by
  have hrecord (map : List (Fin 5)) (same : Bool) (hmap : map.Pairwise (· < ·)) (hsame : same = true → map = []) :
      ({ newTransfer (s.link x) (s.store.slot n) n with map := map, same := same, replyTimer := some 0 } : Transfer).RecordOk
        (((s.link x).tagCounter + 1) % 16) :=
    ⟨rfl, Nat.zero_le _, ⟨fun h => (by cases h), fun h => (by cases h)⟩, fun m hm => (by cases hm; decide), hmap,
      fun k hk => (by cases hk), fun hs => ⟨hsame hs, by rintro ⟨⟩⟩⟩
  have hattempt (map : List (Fin 5)) (same : Bool) (hmap : map.Pairwise (· < ·)) (hsame : same = true → map = []) :
      LinkOk x (beginAttempt x { newTransfer (s.link x) (s.store.slot n) n with map := map, same := same } (takenState x n s)) := by
    refine linkOk_attempt ?_
    rw [takenState_link]
    exact h.nextTag hup (hrecord map same hmap hsame)
  rw [startTransfer_eq]
  dsimp only
  split
  next => exact hattempt allBlocks false allBlocks_pairwise (by rintro ⟨⟩)
  next a hbase =>
    split
    next => exact hattempt [] true List.Pairwise.nil fun _ => rfl
    next hne =>
      have hlink := compareReady_link x n s
      have hrecord' : ({ newTransfer (s.link x) (s.store.slot n) n with map := [], step := .compare } : Transfer).RecordOk
          (((s.link x).tagCounter + 1) % 16) :=
        ⟨rfl, Nat.zero_le _, ⟨fun _ => rfl, fun _ => rfl⟩, fun m hm => (by cases hm), List.Pairwise.nil,
          fun k hk => (by cases hk), fun hs => (by cases hs)⟩
      have hunasked : Views (linkRequester x) Unasked (compareReady x n s) :=
        Views.unasked_withdrawn (s := s) (by rw [compareReady_store, take_eq]; exact waiting_withSlots _ _ _)
          (by rw [compareReady_store, take_eq])
      refine ⟨?_, ?_⟩
      · rw [link_requestPort, hlink]
        exact h.nextTag hup hrecord'
      · rw [link_requestPort, hlink]
        refine hunasked.link_requested ?_ fun _ => work_isDiag
        exact (work_compare rfl rfl _).mpr ⟨a, agreedBase_applied hbase, 0, rfl, fun j hj => by cases hj⟩

/-- A completed access of the link that was wanted: the link waits for nothing, and its step asked for that access. -/
theorem LinkOk.wanted (h : LinkOk x s) {w : PortUse} (hbusy : s.store.busy = some w) (hr : w.requester = linkRequester x)
    (hw : w.wanted = true) :
    s.store.waiting (linkRequester x) = none ∧ (s.link x).Work x (some w.access) := by
  obtain ⟨-, hviews⟩ := h
  rw [Views, accessOf_of_busy hbusy hr] at hviews
  exact hviews.wanted hw

/-- A completed access whose result is discarded. -/
theorem LinkOk.discarded (h : LinkOk x s) {w : PortUse} (hbusy : s.store.busy = some w) (hr : w.requester = linkRequester x)
    (hw : w.wanted = false ∨ (s.link x).transfer = none) : LinkOk x (releasePort s) := by
  refine h.of_views (link_releasePort s x) ?_
  obtain ⟨-, hviews⟩ := h
  rw [Views, accessOf_of_busy hbusy hr] at hviews
  obtain ⟨hone, hasks⟩ := hviews
  refine Views.released ?_ (work_stable x _ _)
  rcases hw with hunwanted | hidle
  · have hasking : linkAsking (s.store.waiting (linkRequester x)) (some w) = linkAsking (s.store.waiting (linkRequester x)) none := by
      simp [linkAsking, Option.filter, hunwanted]
    exact ⟨.inr (by simp), hasking ▸ hasks⟩
  · have hnone : s.store.waiting (linkRequester x) = none := by
      have hidle := (work_idle hidle _).mp hasks
      cases hwaiting : s.store.waiting (linkRequester x) with
      | none => rfl
      | some a => simp [hwaiting, linkAsking] at hidle
    rw [hnone]
    exact LinkView.of_unasked ((unasked_iff _ _).mpr ⟨rfl, by simp⟩) ((work_idle hidle _).mpr rfl)

/-- A completed read whose frame is sent. -/
theorem LinkOk.sent (h : LinkOk x s) {w : PortUse} (hbusy : s.store.busy = some w) (hr : w.requester = linkRequester x)
    (hw : w.wanted = true) (ha : ∀ i j y k, w.access ≠ .compare i j y k) (bytes : List Byte) :
    LinkOk x (releasePort (sendOnLink x bytes s)) := by
  obtain ⟨hwaiting, hwork⟩ := h.wanted hbusy hr hw
  refine linkOk_unasked ?_ ?_ (Views.unasked_released (by simpa [sendOnLink] using hwaiting))
  · rw [link_releasePort, sendOnLink_link]
    exact h.1.send bytes
  · rw [link_releasePort, sendOnLink_link, send_transfer]
    exact step_of_work hwork ha

theorem noteCompare_record (st : FrameStore) (a b : Fin 6) (lamp : Side) (k : Fin 5) {t : Transfer} {tagCounter : Nat}
    (ht : t.RecordOk tagCounter) (hstep : t.step = .compare) (hlower : ∀ j ∈ t.map, j < k) :
    (noteCompare st a b lamp k t).RecordOk tagCounter ∧ (noteCompare st a b lamp k t).step = .compare ∧
      (noteCompare st a b lamp k t).same = false ∧ ∀ j ∈ (noteCompare st a b lamp k t).map, j ≤ k := by
  obtain ⟨htag, hretries, htimer, hlt, hmap, hblock, hsame⟩ := id ht
  have hsame' : t.same = false := by
    cases h : t.same with
    | false => rfl
    | true => exact absurd hstep (hsame h).2
  unfold noteCompare
  split
  next =>
    refine ⟨⟨htag, hretries, htimer, hlt, ?_, fun j hj => ?_, fun hs => ?_⟩, hstep, hsame', fun j hj => ?_⟩
    · exact List.pairwise_append.mpr ⟨hmap, List.pairwise_singleton _ _, fun i hi j hj => by
        rw [List.mem_singleton] at hj
        exact hj ▸ hlower i hi⟩
    · cases hstep.symm.trans hj
    · cases hsame'.symm.trans hs
    · rcases List.mem_append.mp hj with hj | hj
      · exact (hlower j hj).le
      · exact (List.mem_singleton.mp hj).le
  next => exact ⟨ht, hstep, hsame', fun j hj => (hlower j hj).le⟩

/-- A wanted compare that completes. -/
theorem LinkOk.compared (h : LinkOk x s) {t : Transfer} {w : PortUse} {a b : Fin 6} {lamp : Side} {k : Fin 5}
    (hbusy : s.store.busy = some w) (hr : w.requester = linkRequester x) (ha : w.access = .compare a b lamp k)
    (hw : w.wanted = true) (ht : (s.link x).transfer = some t) :
    LinkOk x (afterCompare x a b (noteCompare s.store a b lamp k t) (releasePort (afterNote x a b lamp k t s)) k) := by
  obtain ⟨hwaiting, hwork⟩ := h.wanted hbusy hr hw
  have hfields := h.1
  have hup := hfields.up_of_transfer ht
  have hstep : t.step = .compare := by
    cases hs : t.step with
    | compare => rfl
    | header => rcases (work_header ht hs _).mp hwork with hask | hask <;> simp [ha] at hask
    | block j => rcases (work_block ht hs _).mp hwork with hask | hask <;> simp [ha] at hask
    | finish => cases (work_finish ht hs _).mp hwork
  obtain ⟨hold, happlied, j, hask, hlower⟩ := (work_compare ht hstep _).mp hwork
  rw [ha] at hask
  cases hask
  obtain ⟨-, -, -, -, -, hrecords, -⟩ := id hfields
  obtain ⟨hnoted, hstep', hsame, hupper⟩ := noteCompare_record s.store t.slot hold.slot x k (hrecords t ht) hstep hlower
  obtain ⟨hslot, -⟩ := noteCompare_slot s.store t.slot hold.slot x k t
  have hlink := afterNote_link x t.slot hold.slot x k t s
  have hrecord : ((releasePort (afterNote x t.slot hold.slot x k t s)).link x) =
      { s.link x with transfer := some (noteCompare s.store t.slot hold.slot x k t) } := by
    rw [link_releasePort, hlink]
  have hunasked : Views (linkRequester x) Unasked (releasePort (afterNote x t.slot hold.slot x k t s)) :=
    Views.unasked_released (by simpa [afterNote] using hwaiting)
  generalize releasePort (afterNote x t.slot hold.slot x k t s) = v at hrecord hunasked
  have hnext (m : Fin 5) (hm : k < m) :
      LinkOk x (requestPort (linkRequester x) (.compare t.slot hold.slot x m) v) := by
    refine ⟨?_, ?_⟩
    · rw [link_requestPort, hrecord]
      exact hfields.withTransfer hup hnoted
    · rw [link_requestPort, hrecord]
      refine hunasked.link_requested ((work_compare rfl hstep' _).mpr ⟨hold, happlied, m, ?_, fun j hj => ?_⟩) fun _ => work_isDiag
      · rw [hslot]
      · exact (hupper j hj).trans_lt hm
  unfold afterCompare
  split
  · exact hnext 1 (by decide)
  · exact hnext 2 (by decide)
  · exact hnext 3 (by decide)
  · exact hnext 4 (by decide)
  · refine linkOk_attempt ?_
    rw [hrecord]
    obtain ⟨htag, hretries, -, -, hmap, -, -⟩ := hnoted
    exact hfields.ready hup ⟨htag, hretries, ⟨fun h => (by cases h), fun h => (by cases h)⟩, fun m hm => (by cases hm; decide), hmap,
      fun j hj => (by cases hj), fun hs => (by cases hsame.symm.trans hs)⟩

theorem nextStep_block {map : List (Fin 5)} {step : TransferStep} {k : Fin 5} (hstep : ∀ j, step = .block j → j ∈ map)
    (h : nextStep map step = .block k) : k ∈ map := by
  cases step with
  | compare => cases h
  | finish => cases h
  | header =>
    cases map with
    | nil => cases h
    | cons j rest =>
      cases h
      exact List.mem_cons_self
  | block j =>
    simp only [nextStep] at h
    split at h
    next m hm =>
      cases h
      exact List.mem_of_find?_eq_some hm
    next => cases h

theorem nextStep_ne_compare {map : List (Fin 5)} {step : TransferStep} : nextStep map step ≠ .compare := by
  cases step with
  | compare => simp [nextStep]
  | finish => simp [nextStep]
  | header => cases map <;> simp [nextStep]
  | block j =>
    simp only [nextStep]
    split <;> simp

theorem LinkOk.acknowledged (h : LinkOk x s) {t : Transfer} (hup : (s.link x).state = .up) (ht : (s.link x).transfer = some t) :
    LinkOk x (takeAck x t s) := by
  obtain ⟨-, -, -, -, -, hrecords, -⟩ := id h.1
  by_cases hfinish : t.step = .finish
  · rw [takeAck_finish s hfinish]
    exact linkOk_completeTransfer h.1 hup t
  · rw [takeAck_step s hfinish]
    obtain ⟨htag, hretries, -, -, hmap, hblock, hsame⟩ := hrecords t ht
    exact linkOk_beginAttempt h.1 hup ⟨htag, hretries, ⟨fun h => (by cases h), fun h => absurd h nextStep_ne_compare⟩,
      fun m hm => (by cases hm; decide), hmap, fun k hk => nextStep_block hblock hk,
      fun hs => ⟨(hsame hs).1, nextStep_ne_compare⟩⟩

theorem LinkOk.resent (h : LinkOk x s) {t : Transfer} (ht : (s.link x).transfer = some t)
    (hstep : t.step ≠ .compare ∨ t.replyTimer.isSome = true) : LinkOk x (demandResend x t s) := by
  obtain ⟨-, -, -, -, -, hrecords, -⟩ := id h.1
  obtain ⟨htag, hretries, htimer, -, hmap, hblock, hsame⟩ := hrecords t ht
  have hsending : t.step ≠ .compare := hstep.elim id fun hrunning hcompare => by simp [htimer.mpr hcompare] at hrunning
  by_cases hagain : t.retries < 3
  · rw [demandResend_again s hagain]
    exact linkOk_beginAttempt h.1 (h.1.up_of_transfer ht) ⟨htag, hagain, ⟨fun h => (by cases h), fun h => absurd h hsending⟩,
      fun m hm => (by cases hm; decide), hmap, hblock, hsame⟩
  · rw [demandResend_failed s hagain]
    exact (linkOk_abandonTransfer h.1).of_same (by simp [failTransfer]) (by simp [failTransfer])

theorem LinkChange.linkOk_self {u : State} (h : LinkChange x s u) (hs : LinkOk x s) : LinkOk x u := by
  cases h with
  | discarded w hbusy hr hw => exact hs.discarded hbusy hr hw
  | headerSent t w i bytes hbusy hr ha hw => exact hs.sent hbusy hr hw (by simp [ha]) bytes
  | blockSent t w i lamp k bytes hbusy hr ha hw => exact hs.sent hbusy hr hw (by simp [ha]) bytes
  | compared t w a b lamp k hbusy hr ha hw ht => exact hs.compared hbusy hr ha hw ht
  | wireFreed => exact hs.of_record (by rw [link_setLink]; exact hs.1.wireFreed) (by simp) (by simp) (by simp)
  | lampState bytes temp ok entries hframe =>
    refine hs.of_record ?_ ?_ ?_ (by simp)
    · rw [takeLampState_link]
      exact hs.1.reported _ _ _ (lampState_length hframe)
    · rw [takeLampState_link]
      rfl
    · rw [takeLampState_link]
      rfl
  | lost => exact (linkOk_linkLost hs.1).of_same (by simp) (by simp)
  | fetched n applied full absent hup => exact linkOk_startTransfer hs.1 hup n applied full absent
  | acknowledged t hup ht => exact hs.acknowledged hup ht
  | resent t ht hstep => exact hs.resent ht hstep
  | quitted t => exact linkOk_abandonTransfer hs.1

end OwnChanges

/-! ## A link through every change -/

theorem LinkChange.link_ne {x y : Side} {s u : State} (h : LinkChange x s u) (hy : y ≠ x) : u.link y = s.link y := by
  cases h with
  | discarded => exact link_releasePort _ _
  | headerSent | blockSent => rw [link_releasePort, sendOnLink_link_ne hy]
  | compared => rw [afterCompare_link_ne hy, link_releasePort, afterNote_link_ne hy]
  | wireFreed => exact link_setLink_ne hy _ _
  | lampState bytes temp ok entries => exact takeLampState_link_ne hy _ _ _ _
  | lost => rw [link_raiseNotice, link_raiseFault, linkLost_link_ne hy]
  | fetched n applied full absent => exact startTransfer_link_ne hy _ _ _ _ _
  | acknowledged t =>
    by_cases hfinish : t.step = .finish
    · rw [takeAck_finish s hfinish, completeTransfer_link_ne hy]
    · rw [takeAck_step s hfinish, beginAttempt_link_ne hy]
  | resent t =>
    by_cases hagain : t.retries < 3
    · rw [demandResend_again s hagain, beginAttempt_link_ne hy]
    · rw [demandResend_failed s hagain, failTransfer, link_raiseFault, abandonTransfer_link_ne hy]
  | quitted t => exact abandonTransfer_link_ne hy s

theorem LinkChange.linkOk {x y : Side} {s u : State} (h : LinkChange x s u) (hs : LinkOk y s) : LinkOk y u := by
  by_cases hy : y = x
  · subst hy
    exact h.linkOk_self hs
  · exact hs.of_views (h.link_ne hy) (h.views (linkRequester_inj hy) (work_stable _ _ _) hs.2)

/-- The builder's commands leave another requester's place at the port. -/
theorem BuildChange.views {s u : State} (h : BuildChange s u) {r : Requester} (hr : r ≠ .commit)
    {V : Option PortAccess → Option PortUse → Prop} (hV : GrantStable r V) (hs : Views r V s) : Views r V u := by
  have hslots {v : State} (hv : v.store = { s.store with slots := v.store.slots }) : Views r V v :=
    hs.of_same (waiting_withSlotsOf hv r) (accessOf_congr r (by rw [hv]))
  cases h with
  | overrun b => exact hs.of_store (by simp [restartTimer])
  | started slot => exact hslots (by rw [startBuild_store]; rfl)
  | computed b =>
    have hcomputed : Views r V (afterCompute b s) := hs.of_store (by simp)
    exact hcomputed.requestPort hV hr _
  | blockWritten b f n w lamp k hphase hbusy hw =>
    have hwritten : Views r V (releasePort (afterBlockWrite b f n lamp k s)) :=
      Views.releasePort (s := afterBlockWrite b f n lamp k s) (hslots rfl) hV hbusy fun h => hr (h.symm.trans hw)
    exact hwritten.requestPort hV hr _
  | committed b f n w hphase hbusy hw =>
    refine Views.releasePort (s := afterCommit b f s) (hslots ?_) hV ?_ fun h => hr (h.symm.trans hw)
    · rw [afterCommit_store, afterHeaderWrite_eq]
    · rw [afterCommit_store, afterHeaderWrite_eq]
      exact hbusy

theorem linkRequester_ne (x : Side) : linkRequester x ≠ .commit ∧ linkRequester x ≠ .diag := by cases x <;> decide

/-- A link after an installation. -/
theorem linkOk_installed {x : Side} {s : State} (h : (s.link x).FieldsOk) {v : State} (hlink : (v.link x) = (s.link x).afterInstall)
    (hviews : Views (linkRequester x) Unasked v) : LinkOk x v := by
  refine linkOk_unasked ?_ ?_ hviews
  · rw [hlink]
    exact h.ended _ fun _ => rfl
  · rw [hlink]
    rintro t ⟨⟩

theorem unasked_none : Unasked none none := (unasked_iff _ _).mpr ⟨rfl, by simp⟩

theorem OperatingChange.linkOk {c : Instr} {x : Side} {s u : State} (h : OperatingChange s c u) (hs : LinkOk x s) : LinkOk x u := by
  have hreport {v : State} (hv : LinkOk x v) : LinkOk x (reportChange v) := hv.of_same (by cases x <;> simp) (by simp)
  have hconfig : LinkOk x (enterConfig s) :=
    linkOk_installed hs.1 (by cases x <;> simp [enterConfig])
      (views_installed (linkRequester_ne x).2 (unasked_stable _) unasked_none _)
  have hreset : LinkOk x (resetBlocks s) :=
    linkOk_installed hs.1 (by cases x <;> simp [resetBlocks])
      (views_installed (linkRequester_ne x).2 (unasked_stable _) unasked_none _)
  cases h with
  | written _ p v => exact hs.of_same (by cases x <;> simp) (by simp)
  | ran data =>
    have hran : LinkOk x (enterRun s) := hs.of_same (by cases x <;> rfl) rfl
    exact hreport hran
  | configured data => exact hreport hconfig
  | restarted data => exact hreset
  | restartedAnew data => exact hreport hreset

theorem Change.linkOk {c : Instr} {x : Side} {s u : State} (h : Change c s u) (hs : LinkOk x s) : LinkOk x u := by
  have hstable := work_stable x (s.link x) (linkRequester x)
  cases h with
  | unchanged => exact hs
  | fault f => exact hs.of_same (link_raiseFault f s x) (by simp)
  | tracks h => exact hs.of_same (by cases x <;> simp [h.frame]) (by simp [h.frame])
  | driving h => exact hs.of_same (by cases x <;> simp [h.frame]) (by simp [h.frame])
  | cache h => exact hs.of_same (by cases x <;> simp [h.frame]) (by simp [h.frame])
  | build h => exact hs.of_views (by cases x <;> simp [h.frame]) (h.views (linkRequester_ne x).1 hstable hs.2)
  | link y h => exact h.linkOk hs
  | diag h => exact hs.of_views (by cases x <;> simp [h.frame]) (h.views (linkRequester_ne x).2 hstable hs.2)
  | operating h => exact h.linkOk hs
  | port h => exact hs.of_same (by cases x <;> simp [h.frame]) (by simp [h.frame])

/-- A link's work does not depend on the reply timer. -/
theorem work_advanceLink (x : Side) (l : LampLink) (o : Option PortAccess) : (advanceLink l).Work x o ↔ l.Work x o := by
  unfold LampLink.Work advanceLink
  cases l.transfer with
  | none => exact Iff.rfl
  | some t => exact Iff.rfl

theorem linkOk_tick {x : Side} {s : State} (h : LinkOk x s) : LinkOk x (tick s) := by
  have hlink : (tick s).link x = advanceLink (s.link x) := by cases x <;> rfl
  have hwork : (advanceLink (s.link x)).Work x = (s.link x).Work x := funext fun o => propext (work_advanceLink x _ o)
  obtain ⟨hfields, hviews⟩ := h
  refine ⟨hlink ▸ hfields.ticked, ?_⟩
  rw [hlink, hwork]
  exact hviews.of_store rfl

theorem linkOk_afterPowerOnReset (x : Side) (s : State) : LinkOk x (afterPowerOnReset s) := by
  have hnone : Views (linkRequester x) Unasked (afterPowerOnReset s) := by
    cases x <;> exact unasked_none
  refine linkOk_unasked ?_ ?_ hnone
  · rw [link_afterPowerOnReset]
    exact ⟨(stateOk_down rfl).mpr ⟨rfl, rfl, rfl, rfl, rfl, rfl, rfl⟩, List.Pairwise.nil, fun i hi => (by cases hi), Nat.zero_le _,
      by decide, fun t ht => (by cases ht), fun _ => rfl⟩
  · rw [link_afterPowerOnReset]
    rintro t ⟨⟩

end Sys2Proof.Machine

namespace Sys2Proof.Proofs

open Sys2Proof.Machine

/-- Settles O57: each link's record and its place at the port are kept by its own commands, and its place is stable under every grant,
so no other command disturbs it. -/
theorem linksKeptByEveryStep : Obligations.LinksKeptByEveryStep := by
  have hkept (s u : State) (h : LinksInv s) (hall : ∀ x, LinkOk x s → LinkOk x u) : LinksInv u :=
    (linksInv_iff u).mpr fun x => hall x ((linksInv_iff s).mp h x)
  refine keptByStep_of (fun _ _ h => h) (fun s h => hkept s _ h fun _ => linkOk_tick)
    (fun s => (linksInv_iff _).mpr fun x => linkOk_afterPowerOnReset x s) fun c s u h hu => hkept s _ h fun x hx => ?_
  exact (hu.linkOk hx).of_same (by cases x <;> rfl) rfl

end Sys2Proof.Proofs
end

section
/-! SUPPORT. Bytes as they are sent and received (10.4): a field in its bytes, a byte of flags, the CRC-16, the valid frames from a lamp,
and then the proof of the statement. -/

namespace Sys2Proof.Machine

/-! ## Fields in their bytes -/

theorem toNat_putByte {n : Nat} (h : n ≤ 255) : (putByte n).toNat = n := by
  rw [putByte, BitVec.toNat_ofNat]
  exact Nat.mod_eq_of_lt (by omega)

theorem putByte_mod (n : Nat) : putByte (n % 256) = putByte n := by
  apply BitVec.eq_of_toNat_eq
  rw [putByte, putByte, BitVec.toNat_ofNat, BitVec.toNat_ofNat]
  exact Nat.mod_mod _ _

theorem put16_eq (n : Nat) : put16 n = [putByte (n / 256), putByte (n % 256)] := by rw [putByte_mod, put16]

theorem unsigned16_eq {data : List Byte} {i n : Nat} (h : n ≤ 65535) (hhigh : data.getD i 0 = putByte (n / 256))
    (hlow : data.getD (i + 1) 0 = putByte n) : unsigned16 data i = n := by
  rw [unsigned16, byteAt, byteAt, hhigh, hlow, ← putByte_mod n, toNat_putByte (by omega), toNat_putByte (by omega)]
  omega

theorem twosComplement_emod {i : Int} (h : FitsSigned16 i) : twosComplement 16 (i % 65536).toNat = i := by
  obtain ⟨hlo, hhi⟩ := h
  unfold twosComplement
  split <;> omega

theorem signed16_of_bytes {data : List Byte} {i : Nat} {v : Int} (h : FitsSigned16 v)
    (hhigh : data.getD i 0 = putByte ((v % 65536).toNat / 256)) (hlow : data.getD (i + 1) 0 = putByte (v % 65536).toNat) :
    signed16 data i = v := by
  rw [signed16, unsigned16_eq (by omega) hhigh hlow, twosComplement_emod h]

theorem signed16_putSigned16 {v : Int} (h : FitsSigned16 v) : signed16 (putSigned16 v) 0 = v := signed16_of_bytes h rfl rfl

/-! ## A byte of flags -/

theorem testBit_marksToNat_reverse (marks : List Bool) (i : Nat) :
    (marksToNat marks.reverse).testBit i = marks.getD i false := by
  rw [marksToNat, List.foldl_reverse]
  induction marks generalizing i with
  | nil => simp
  | cons b marks ih =>
    rw [List.foldr_cons]
    cases i with
    | zero => cases b <;> simp [Nat.testBit_zero, Nat.add_mod]
    | succ i =>
      rw [Nat.testBit_succ, List.getD_cons_succ, ← ih i]
      congr 1
      cases b <;> simp only [Bool.toNat_true, Bool.toNat_false] <;> omega

theorem getLsbD_flagByte (marks : List Bool) {i : Nat} (hi : i < 8) : (flagByte marks).getLsbD i = marks.getD i false := by
  rw [flagByte, putByte, BitVec.getLsbD_ofNat, testBit_marksToNat_reverse]
  simp [hi]

theorem sentFieldsOk : SentFieldsOk :=
  ⟨fun _ h => toNat_putByte h, fun n _ => put16_eq n, fun _ h => ⟨rfl, signed16_putSigned16 h⟩,
    fun marks _ _ hi => getLsbD_flagByte marks hi⟩

/-! ## The CRC-16 -/

/-- One bit of the CRC-16 (10.4). -/
def crcStep (crc : BitVec 16) (bit : Bool) : BitVec 16 := if crc.msb != bit then (crc <<< 1) ^^^ 0x1021#16 else crc <<< 1

/-- A bit that was folded into the register beforehand acts as the bit itself. -/
theorem crcBit_xor (crc y : BitVec 16) : crcBit (crc ^^^ y) = crcStep crc y.msb ^^^ (y <<< 1) := by
  have hswap (a b c : BitVec 16) : a ^^^ b ^^^ c = a ^^^ c ^^^ b := by rw [BitVec.xor_assoc, BitVec.xor_comm b c, BitVec.xor_assoc]
  have hshift : (crc ^^^ y) <<< 1 = crc <<< 1 ^^^ y <<< 1 := BitVec.shiftLeft_xor_distrib _ _ _
  unfold crcBit crcStep
  rw [BitVec.msb_xor, hshift]
  cases crc.msb <;> cases y.msb <;> simp [hswap]

theorem crcByte_eq (crc : BitVec 16) (b : Byte) :
    crcByte crc b = [7, 6, 5, 4, 3, 2, 1, 0].foldl (fun crc i => crcStep crc (b.getLsbD i)) crc := by
  have hmsb (i : Nat) (hi : i < 8) : (b.zeroExtend 16 <<< (8 + i)).msb = b.getLsbD (7 - i) := by
    rw [BitVec.msb_eq_getLsbD_last, BitVec.getLsbD_shiftLeft]
    have hlt : ¬15 < 8 + i := by omega
    have hsub : 15 - (8 + i) = 7 - i := by omega
    simp [hlt, hsub]
    omega
  have hnext (i : Nat) (c : BitVec 16) (hi : i < 8) :
      crcBit (c ^^^ b.zeroExtend 16 <<< (8 + i)) = crcStep c (b.getLsbD (7 - i)) ^^^ b.zeroExtend 16 <<< (8 + (i + 1)) := by
    rw [crcBit_xor, hmsb i hi, ← BitVec.shiftLeft_add, Nat.add_assoc]
  have hout : b.zeroExtend 16 <<< 16 = 0#16 := BitVec.shiftLeft_eq_zero (by decide)
  have hfirst := hnext 0 crc (by decide)
  rw [Nat.add_zero] at hfirst
  unfold crcByte
  rw [hfirst, hnext 1 _ (by decide), hnext 2 _ (by decide), hnext 3 _ (by decide),
    hnext 4 _ (by decide), hnext 5 _ (by decide), hnext 6 _ (by decide), hnext 7 _ (by decide), hout, BitVec.xor_zero]
  rfl

theorem put16_crc (crc : BitVec 16) : put16 crc.toNat = [crc.extractLsb' 8 8, crc.extractLsb' 0 8] := by
  have hlt := crc.isLt
  rw [put16]
  have hhigh : putByte (crc.toNat / 256) = crc.extractLsb' 8 8 := by
    apply BitVec.eq_of_toNat_eq
    rw [toNat_putByte (by omega), BitVec.extractLsb'_toNat, Nat.shiftRight_eq_div_pow]
    omega
  have hlow : putByte crc.toNat = crc.extractLsb' 0 8 := by
    apply BitVec.eq_of_toNat_eq
    rw [putByte, BitVec.toNat_ofNat, BitVec.extractLsb'_toNat, Nat.shiftRight_zero]
  rw [hhigh, hlow]

theorem crc16_append (bytes : List Byte) (b : Byte) : crc16 (bytes ++ [b]) = crcByte (crc16 bytes) b := by
  rw [crc16, List.foldl_append]
  rfl

theorem crcOk : CrcOk := by
  refine ⟨rfl, fun bytes b => (crc16_append bytes b).trans (crcByte_eq _ b), fun bytes => ?_, by decide +kernel⟩
  rw [withCrc, put16_crc]

/-! ## Frames from a lamp (R138, Table 10-6) -/

theorem lampFrame_withCrc (kind : Byte) (body : List Byte) :
    lampFrame (withCrc (kind :: body)) = lampFrameOf kind.toNat body := by
  have hlength : (withCrc (kind :: body)).length - 2 = (kind :: body).length := by simp [withCrc, put16]
  have htake : (withCrc (kind :: body)).take ((withCrc (kind :: body)).length - 2) = kind :: body := by
    rw [hlength, withCrc, List.take_left]
  have hagrees : crcAgrees (withCrc (kind :: body)) = true := by
    rw [crcAgrees, htake]
    simp [withCrc, put16]
  rw [lampFrame, if_pos hagrees, frameBody, htake]
  rfl

theorem eq_withCrc_of_agrees {bytes : List Byte} (h : crcAgrees bytes = true) :
    ∃ (kind : Byte) (body : List Byte), bytes = withCrc (kind :: body) := by
  obtain ⟨hlength, hbytes⟩ := (Bool.and_eq_true _ _).mp h
  have hlength := of_decide_eq_true hlength
  cases htake : bytes.take (bytes.length - 2) with
  | nil =>
    rw [List.take_eq_nil_iff] at htake
    rcases htake with hzero | hnil
    · omega
    · simp [hnil] at hlength
  | cons kind body =>
    rw [htake] at hbytes
    exact ⟨kind, body, beq_iff_eq.mp hbytes⟩

theorem isSome_ite (p : Prop) [Decidable p] (f : LampFrame) : (if p then some f else none).isSome = true ↔ p := by
  split <;> simp_all

/-- Table 10-6's lengths. -/
theorem lampFrameOf_isSome_iff (kind : Byte) (body : List Byte) :
    (lampFrameOf kind.toNat body).isSome = true ↔
      (kind = 0x20 ∧ body.length = 4 + byteAt body 3 ∧ byteAt body 3 ≤ 16) ∨ (kind = 0x21 ∧ body.length = 3) ∨
        (kind = 0x22 ∧ body.length = 2) ∨ (kind = 0x23 ∧ body.length = 2) ∨ (kind = 0x24 ∧ body.length = 1) := by
  have hkind (n : Byte) : kind = n ↔ kind.toNat = n.toNat := BitVec.toNat_inj.symm
  rw [hkind 0x20, hkind 0x21, hkind 0x22, hkind 0x23, hkind 0x24]
  generalize kind.toNat = k
  unfold lampFrameOf
  split
  case h_6 => simp_all
  case h_1 =>
    rw [isSome_ite]
    simp
    omega
  all_goals
    rw [isSome_ite]
    simp

theorem exec_invalid {bytes : List Byte} (h : lampFrame bytes = none) (x : Side) (s : State) :
    exec (.lampState x bytes) s = .next s ∧ exec (.fetch x bytes) s = .next s ∧ exec (.ack x bytes) s = .next s ∧
      exec (.retry x bytes) s = .next s ∧ exec (.quit x bytes) s = .next s := by
  refine ⟨?_, ?_, ?_, ?_, ?_⟩
  · show execLampState x bytes s = _
    rw [execLampState, h]
  · show execFetch x bytes s = _
    rw [execFetch, h]
  · show execAck x bytes s = _
    rw [execAck, h]
  · show execRetry x bytes s = _
    rw [execRetry, h]
  · show execQuit x bytes s = _
    rw [execQuit, h]

theorem toNat_append_bytes (high low : Byte) : (high ++ low).toNat = high.toNat * 256 + low.toNat := by
  rw [BitVec.toNat_append, ← Nat.shiftLeft_add_eq_or_of_lt low.isLt, Nat.shiftLeft_eq]

theorem toInt_append_bytes (high low : Byte) : (high ++ low).toInt = twosComplement 16 (high.toNat * 256 + low.toNat) := by
  have hlt := (high ++ low).isLt
  rw [BitVec.toInt_eq_toNat_cond, toNat_append_bytes, twosComplement]
  split <;> split <;> omega

theorem stepOfCode_eq (code : Nat) :
    stepOfCode code = [TransferStep.header, .block 0, .block 1, .block 2, .block 3, .block 4, .finish][code]? := by
  match code with
  | 0 | 1 | 2 | 3 | 4 | 5 | 6 => rfl
  | code + 7 => rfl

end Sys2Proof.Machine

namespace Sys2Proof.Proofs

open Sys2Proof.Machine

/-- Settles O37: a frame with an agreeing CRC is its kind and body, and these decide whether it counts and what it says. -/
theorem invalidLinkFrameHasNoEffect : Obligations.InvalidLinkFrameHasNoEffect := by
  refine ⟨crcOk, fun high low flags entries hlength => ?_, fun high low flags => ?_, fun tag code => ?_, fun tag => ?_,
    fun bytes => ⟨⟨fun h => ?_, ?_⟩, fun h x s => exec_invalid h x s⟩⟩
  · have hcount : (BitVec.ofNat 8 entries.length).toNat = entries.length := toNat_putByte (by omega)
    rw [List.cons_append, lampFrame_withCrc, toInt_append_bytes]
    have hbyte : byteAt ([high, low, flags, BitVec.ofNat 8 entries.length] ++ entries) 3 = entries.length := hcount
    refine (if_pos ⟨?_, ?_, ?_⟩).trans rfl
    · exact hbyte.trans_le hlength
    · simp
    · exact ((List.length_append).trans (congrArg (4 + ·) hbyte.symm))
  · rw [lampFrame_withCrc, toNat_append_bytes]
    rfl
  · rw [lampFrame_withCrc, lampFrame_withCrc, ← stepOfCode_eq]
    exact ⟨rfl, rfl⟩
  · rw [lampFrame_withCrc]
    rfl
  · by_cases hagrees : crcAgrees bytes = true
    · obtain ⟨kind, body, rfl⟩ := eq_withCrc_of_agrees hagrees
      rw [lampFrame_withCrc] at h
      exact ⟨kind, body, rfl, (lampFrameOf_isSome_iff kind body).mp h⟩
    · rw [lampFrame, if_neg hagrees] at h
      cases h
  · rintro ⟨kind, body, rfl, hkind⟩
    rw [lampFrame_withCrc]
    exact (lampFrameOf_isSome_iff kind body).mpr hkind

end Sys2Proof.Proofs
end

section
/-! SUPPORT. What the lamp links' commands leave (Chapter 8): the port after a link has withdrawn and asked, an attempt of a step, and
then the proofs of the statements. -/

namespace Sys2Proof.Machine

/-! ## The port after a withdrawal and a request (R132, R133) -/

/-- The store of `u` is that of `s` with link `x` withdrawn, and other slots. -/
def Withdrawn (x : Side) (s u : State) : Prop := u.store = { s.store.withdrawLink x with slots := u.store.slots }

section Withdrawn

variable {x : Side} {s v : State}

theorem withdrawLink_withSlots (st : FrameStore) (slots : Vector FrameSlot 6) (x : Side) :
    ({ st with slots := slots } : FrameStore).withdrawLink x = { st.withdrawLink x with slots := slots } := by
  rw [withdrawLink_eq, withdrawLink_eq]
  cases x <;> rfl

theorem withdrawLink_withdrawLink (st : FrameStore) (x : Side) : (st.withdrawLink x).withdrawLink x = st.withdrawLink x := by
  rw [withdrawLink_eq, withdrawLink_eq]
  have hmap (o : Option PortUse) (r : Requester) :
      (o.map fun w => if w.requester = r then { w with wanted := false } else w).map
          (fun w => if w.requester = r then { w with wanted := false } else w) =
        o.map fun w => if w.requester = r then { w with wanted := false } else w := by
    cases o with
    | none => rfl
    | some w => by_cases h : w.requester = r <;> simp [h]
  simp only [hmap]
  cases x <;> rfl

theorem withdrawn_attemptReady (t : Transfer) (h : v.store = s.store ∨ Withdrawn x s v) : Withdrawn x s (attemptReady x t v) := by
  rw [Withdrawn, attemptReady_store]
  rcases h with hsame | hwithdrawn
  · rw [hsame]
  · rw [hwithdrawn, withdrawLink_withSlots, withdrawLink_withdrawLink]

theorem Withdrawn.waiting (h : Withdrawn x s v) (r : Requester) :
    v.store.waiting r = if r = linkRequester x then none else s.store.waiting r := by
  rw [h, waiting_withSlots, waiting_withdrawLink]

theorem Withdrawn.busy (h : Withdrawn x s v) :
    v.store.busy = s.store.busy.map fun w => if w.requester = linkRequester x then { w with wanted := false } else w := by
  rw [h]
  exact busy_withdrawLink _ _

theorem Withdrawn.lastGranted (h : Withdrawn x s v) : v.store.lastGranted = s.store.lastGranted := by
  rw [h, withdrawLink_eq]
  exact setWaiting_lastGranted _ _ _

theorem Withdrawn.portKept (h : Withdrawn x s v) : PortKept x none s v :=
  ⟨by rw [h.waiting, if_pos rfl], fun r hr => by rw [h.waiting, if_neg hr], h.lastGranted, h.busy⟩

theorem Withdrawn.unasked (h : Withdrawn x s v) : Views (linkRequester x) Unasked v :=
  Views.unasked_withdrawn (s := s) (by rw [h.waiting, waiting_withdrawLink]) (by rw [h.busy, busy_withdrawLink])

theorem Withdrawn.noDiag (h : Withdrawn x s v) (hno : NoDiagAtIdlePort s.store) : NoDiagAtIdlePort v.store := by
  refine hno.imp (fun hbusy => by rw [h.busy]; simpa using hbusy) fun hnone r a ha => ?_
  rw [h.waiting] at ha
  split at ha
  · cases ha
  · exact hnone r a ha

theorem Withdrawn.portAsked (h : Withdrawn x s v) {a : PortAccess} (ha : a.isDiag = false) :
    PortAsked x a s (requestPort (linkRequester x) a v) := by
  refine ⟨fun hbusy => ?_, fun hbusy hothers => ?_⟩
  · rw [requestPort_busy _ _ (by rw [h.busy]; simpa using hbusy)]
    refine ⟨waiting_setWaiting _ _ _, fun r hr => ?_, ?_, ?_⟩
    · rw [waiting_setWaiting_ne hr, h.waiting, if_neg hr]
    · exact (setWaiting_lastGranted _ _ _).trans h.lastGranted
    · exact (setWaiting_busy _ _ _).trans h.busy
  · have hidle : v.store.busy = none := by rw [h.busy, hbusy]; rfl
    rw [requestPort_idle a hidle (fun q hq => by rw [h.waiting, if_neg hq]; exact hothers q hq) ha]
    obtain ⟨hself, hrest⟩ := waiting_granted v.store (linkRequester x)
      (some { requester := linkRequester x, access := a, wanted := true, found := none })
    refine ⟨rfl, rfl, fun r => ?_⟩
    by_cases hr : r = linkRequester x
    · exact hr ▸ hself
    · rw [hrest r hr, h.waiting, if_neg hr]
      exact hothers r hr

/-- What a link that has asked asks for. -/
theorem Withdrawn.linkAsks (h : Withdrawn x s v) {a : PortAccess} (ha : a.isDiag = false) :
    (requestPort (linkRequester x) a v).store.linkAsks x = some a := by
  obtain ⟨-, hasks⟩ := h.unasked.link_requested (P := (· = some a)) rfl fun b hb => by cases hb; exact ha
  exact hasks

end Withdrawn

/-! ## What a link's operations leave alone -/

/-- `u` differs from `s` in the store, the links and the C-port's queued reply alone. -/
theorem linkFrame_requestPort {x : Side} {s v : State} (h : LinkFrame x s v) (r : Requester) (a : PortAccess) :
    LinkFrame x s (requestPort r a v) := by
  simp only [LinkFrame] at h ⊢
  simp only [requestPort_frame, link_requestPort, slot_withSlots (requestPort_slots _ _ _)]
  exact h

theorem samePorts_requestPort {s v : State} (h : SamePorts s v) {r : Requester} {a : PortAccess} (ha : a.isDiag = false)
    (hno : NoDiagAtIdlePort v.store) : SamePorts s (requestPort r a v) := by
  simp only [SamePorts] at h ⊢
  simp only [requestPort_frame, requestPort_cPort_of_noDiag ha hno]
  exact h

theorem otherSide_ne (x : Side) : otherSide x ≠ x := by cases x <;> decide

/-- A link's record and the store changed. -/
theorem linkFrame_setLink (x : Side) {s : State} (st : FrameStore) (l : LampLink)
    (hmemory : ∀ i, (st.slot i).memory = (s.store.slot i).memory) : LinkFrame x s (({ s with store := st } : State).setLink x l) := by
  simp [LinkFrame, link_setLink_ne (otherSide_ne x), hmemory]

theorem samePorts_setLink (x : Side) (s : State) (st : FrameStore) (l : LampLink) :
    SamePorts s (({ s with store := st } : State).setLink x l) := by
  simp [SamePorts]

theorem LinkFrame.trans {x : Side} {s v u : State} (h : LinkFrame x s v) (h' : LinkFrame x v u) : LinkFrame x s u := by
  obtain ⟨h1, h2, h3, h4, h5, h6, h7, h8, h9, h10, h11, h12, h13⟩ := h
  obtain ⟨g1, g2, g3, g4, g5, g6, g7, g8, g9, g10, g11, g12, g13⟩ := h'
  exact ⟨g1.trans h1, g2.trans h2, g3.trans h3, g4.trans h4, g5.trans h5, g6.trans h6, g7.trans h7, g8.trans h8, g9.trans h9,
    g10.trans h10, g11.trans h11, g12.trans h12, fun i => (g13 i).trans (h13 i)⟩

theorem SamePorts.trans {s v u : State} (h : SamePorts s v) (h' : SamePorts v u) : SamePorts s u := by
  obtain ⟨hdiag, hv, hc, hreader⟩ := h
  obtain ⟨hdiag', hv', hc', hreader'⟩ := h'
  exact ⟨hdiag'.trans hdiag, hv'.trans hv, hc'.trans hc, hreader'.trans hreader⟩

theorem linkFrame_sendOnLink (x : Side) (bytes : List Byte) (s : State) : LinkFrame x s (sendOnLink x bytes s) :=
  linkFrame_setLink x s.store _ fun _ => rfl

theorem samePorts_sendOnLink (x : Side) (bytes : List Byte) (s : State) : SamePorts s (sendOnLink x bytes s) :=
  samePorts_setLink x s s.store _

theorem linkFrame_attemptReady (x : Side) (t : Transfer) (s : State) : LinkFrame x s (attemptReady x t s) :=
  linkFrame_setLink x _ _ fun i => by rw [withdrawLink_slot]

theorem samePorts_attemptReady (x : Side) (t : Transfer) (s : State) : SamePorts s (attemptReady x t s) := samePorts_setLink x s _ _

/-! ## An attempt of a step (R146) -/

section Attempt

variable {x : Side} {t : Transfer} {s v : State}

theorem linkFrame_beginAttempt (x : Side) (t : Transfer) (s : State) : LinkFrame x s (beginAttempt x t s) := by
  have hready := linkFrame_attemptReady x t s
  rw [beginAttempt_eq]
  cases t.step with
  | compare => exact hready
  | header => exact linkFrame_requestPort hready _ _
  | block k => exact linkFrame_requestPort hready _ _
  | finish => exact hready.trans (linkFrame_sendOnLink x _ _)

theorem samePorts_beginAttempt (x : Side) (t : Transfer) {s : State} (hno : NoDiagAtIdlePort s.store) :
    SamePorts s (beginAttempt x t s) := by
  have hready := samePorts_attemptReady x t s
  have hno' := (withdrawn_attemptReady (s := s) (v := s) (x := x) t (.inl rfl)).noDiag hno
  rw [beginAttempt_eq]
  cases t.step with
  | compare => exact hready
  | header => exact samePorts_requestPort hready rfl hno'
  | block k => exact samePorts_requestPort hready rfl hno'
  | finish => exact hready.trans (samePorts_sendOnLink x _ _)

theorem attemptPort_beginAttempt (t' : Transfer) (hstep : t'.step = t.step) (hslot : t'.slot = t.slot)
    (h : v.store = s.store ∨ Withdrawn x s v) : AttemptPort x t s (beginAttempt x t' v) := by
  have hready := withdrawn_attemptReady t' h
  rw [beginAttempt_eq, AttemptPort, hstep, hslot]
  cases t.step with
  | compare => exact hready.portKept
  | header => exact hready.portAsked rfl
  | block k => exact hready.portAsked rfl
  | finish =>
    have hsent : Withdrawn x s (sendOnLink x (endFrame t') (attemptReady x t' v)) := by
      rw [Withdrawn, sendOnLink, setLink_store]
      exact hready
    exact hsent.portKept

/-- What a link sends. -/
theorem send_eq (l : LampLink) (bytes : List Byte) :
    l.send bytes = if l.wire.isNone then { l with wire := some bytes } else { l with waiting := some bytes } := by
  unfold LampLink.send
  cases l.wire <;> rfl

/-- An attempt in the terms of the statements, on a state whose link's record is that of `s` up to a waiting frame. -/
theorem attemptBegun_beginAttempt (hlink : ({ v.link x with waiting := none } : LampLink) = { s.link x with waiting := none }) :
    AttemptBegun x t s (beginAttempt x t v) := by
  have hready := withdrawn_attemptReady (s := v) (v := v) (x := x) t (.inl rfl)
  have htimed : (v.link x).ready t = { s.link x with transfer := some { t with replyTimer := some 0 }, waiting := none } :=
    congrArg (fun l : LampLink => { l with transfer := some { t with replyTimer := some 0 } }) hlink
  have hrecord := attemptReady_link x t v
  rw [htimed] at hrecord
  rw [beginAttempt_eq]
  obtain ⟨tag, slot, sequence, map, same, step, retries, timer⟩ := t
  cases step with
  | compare => exact hrecord
  | header => exact ⟨(link_requestPort _ _ _ _).trans hrecord, hready.linkAsks rfl⟩
  | block k => exact ⟨(link_requestPort _ _ _ _).trans hrecord, hready.linkAsks rfl⟩
  | finish =>
    refine ⟨?_, ?_⟩
    · have hasks := hready.portKept.linkAsks_eq
      simpa [sendOnLink] using hasks
    · rw [sendOnLink_link, hrecord, send_eq]
      rfl

theorem slots_beginAttempt (x : Side) (t : Transfer) (s : State) : (beginAttempt x t s).store.slots = s.store.slots :=
  beginAttempt_slots x t s

end Attempt

end Sys2Proof.Machine
end

section
/-! SUPPORT. The lamp links' commands (Chapter 8, R136 to R151): what each answers, and then the proofs of the statements. -/

namespace Sys2Proof.Machine

/-! ## The port once the arbiter is done (R132, R134) -/

/-- Only DIAG waits with a diagnostic read. -/
def DiagWaitsAlone (st : FrameStore) : Prop := ∀ r, r ≠ .diag → ∀ a ∈ st.waiting r, a.isDiag = false

/-- A grant leaves the port busy, or nothing of DIAG waiting. -/
theorem grant_busy_or_diag {s : State} {r : Requester} {a : PortAccess} (h : DiagWaitsAlone s.store)
    (hwaiting : s.store.waiting r = some a) :
    (grant r a s).store.busy.isSome = true ∨ (grant r a s).store.waiting .diag = none := by
  by_cases hdiag : a.isDiag = false
  · left
    exact grant_busy _ _ _ ((isDiag_eq_false_iff a).mp hdiag)
  · right
    have hr : r = .diag := by
      by_contra hr
      exact hdiag (h r hr a hwaiting)
    rw [waiting_grant, if_pos hr.symm]

theorem DiagWaitsAlone.grant {s : State} (h : DiagWaitsAlone s.store) (r : Requester) (a : PortAccess) :
    DiagWaitsAlone (grant r a s).store := by
  intro q hq b hb
  rw [waiting_grant] at hb
  split at hb
  · cases hb
  · exact h q hq b hb

/-- The arbiter leaves no request waiting at an idle port. -/
theorem arbitrate_noRequest {s : State} (h : DiagWaitsAlone s.store) : NoRequestAtIdlePort (arbitrate s).store := by
  have hdone {v : State} (hv : v.store.busy.isSome = true ∨ v.store.nextGrant = none) : NoRequestAtIdlePort (grantNext v).store := by
    intro hidle r
    rcases hv with hbusy | hnone
    · rw [grantNext_busy v hbusy] at hidle
      simp [hidle] at hbusy
    · rw [grantNext_none v hnone]
      exact (nextGrant_eq_none _).mp hnone r
  unfold arbitrate
  by_cases hbusy : s.store.busy.isSome = true
  · rw [grantNext_busy s hbusy]
    exact hdone (.inl hbusy)
  rw [Option.not_isSome_iff_eq_none] at hbusy
  cases hnext : s.store.nextGrant with
  | none =>
    rw [grantNext_none s hnext]
    exact hdone (.inr hnext)
  | some p =>
    obtain ⟨r, a⟩ := p
    have hwaiting := nextGrant_waiting _ _ _ hnext
    have halone := h.grant r a
    rw [grantNext_some s r a hbusy hnext]
    rcases grant_busy_or_diag h hwaiting with hgranted | hdiag
    · exact hdone (.inl hgranted)
    · generalize grant r a s = v at halone hdiag
      by_cases hv : v.store.busy.isSome = true
      · exact hdone (.inl hv)
      rw [Option.not_isSome_iff_eq_none] at hv
      cases hsecond : v.store.nextGrant with
      | none => exact hdone (.inr hsecond)
      | some p =>
        obtain ⟨q, b⟩ := p
        have hq := nextGrant_waiting _ _ _ hsecond
        have hother : b.isDiag = false := halone q (by rintro rfl; rw [hdiag] at hq; cases hq) b hq
        rw [grantNext_some v q b hv hsecond]
        intro hidle
        have hgranted := grant_busy q b v ((isDiag_eq_false_iff b).mp hother)
        simp [hidle] at hgranted

theorem noDiag_of_noRequest {st : FrameStore} (h : NoRequestAtIdlePort st) : NoDiagAtIdlePort st := by
  cases hbusy : st.busy with
  | none => exact .inr fun r a ha => by rw [h hbusy r] at ha; cases ha
  | some w => exact .inl (by rw [hbusy]; rfl)

/-! ## Completed reads and the wire (R146) -/

section Reads

variable {x : Side} {s : State} {w : PortUse} (hbusy : s.store.busy = some w) (hr : w.requester = linkRequester x)
include hbusy hr

theorem gives_headerRead_discarded {i : Fin 6} (ha : w.access = .headerRead i) (hw : w.wanted = false) :
    Gives (.linkHeaderReadDone x) s (releasePort s) := by
  obtain ⟨requester, access, wanted, found⟩ := w
  subst hr ha hw
  have haccess := accessOf_eq_some.mpr ⟨hbusy, rfl⟩
  show execLinkHeaderReadDone x s = _
  simp only [execLinkHeaderReadDone, haccess]
  rfl

theorem gives_blockRead_discarded {i : Fin 6} {lamp : Side} {k : Fin 5} (ha : w.access = .blockRead i lamp k)
    (hw : w.wanted = false) : Gives (.linkBlockReadDone x) s (releasePort s) := by
  obtain ⟨requester, access, wanted, found⟩ := w
  subst hr ha hw
  have haccess := accessOf_eq_some.mpr ⟨hbusy, rfl⟩
  show execLinkBlockReadDone x s = _
  simp only [execLinkBlockReadDone, haccess]
  rfl

theorem gives_compare_discarded {a b : Fin 6} {lamp : Side} {k : Fin 5} (ha : w.access = .compare a b lamp k)
    (hw : w.wanted = false) : Gives (.blockCompareDone x) s (releasePort s) := by
  obtain ⟨requester, access, wanted, found⟩ := w
  subst hr ha hw
  have haccess := accessOf_eq_some.mpr ⟨hbusy, rfl⟩
  show execBlockCompareDone x s = _
  simp only [execBlockCompareDone, haccess]
  rfl

variable {t : Transfer} (ht : (s.link x).transfer = some t) (hw : w.wanted = true)
include ht hw

theorem gives_headerRead_sent {i : Fin 6} (ha : w.access = .headerRead i) :
    Gives (.linkHeaderReadDone x) s (releasePort (sendOnLink x (headerFrame x t (s.store.slot i).memory.header) s)) := by
  obtain ⟨requester, access, wanted, found⟩ := w
  subst hr ha hw
  have haccess := accessOf_eq_some.mpr ⟨hbusy, rfl⟩
  show execLinkHeaderReadDone x s = _
  simp only [execLinkHeaderReadDone, haccess, ht]
  rfl

theorem gives_blockRead_sent {i : Fin 6} {lamp : Side} {k : Fin 5} (ha : w.access = .blockRead i lamp k) :
    Gives (.linkBlockReadDone x) s (releasePort (sendOnLink x (blockFrame t k ((s.store.slot i).memory.block lamp k)) s)) := by
  obtain ⟨requester, access, wanted, found⟩ := w
  subst hr ha hw
  have haccess := accessOf_eq_some.mpr ⟨hbusy, rfl⟩
  show execLinkBlockReadDone x s = _
  simp only [execLinkBlockReadDone, haccess, ht]
  rfl

theorem gives_compare_noted {a b : Fin 6} {lamp : Side} {k : Fin 5} (ha : w.access = .compare a b lamp k) :
    Gives (.blockCompareDone x) s
      (afterCompare x a b (noteCompare s.store a b lamp k t) (releasePort (afterNote x a b lamp k t s)) k) := by
  obtain ⟨requester, access, wanted, found⟩ := w
  subst hr ha hw
  have haccess := accessOf_eq_some.mpr ⟨hbusy, rfl⟩
  show execBlockCompareDone x s = _
  simp only [execBlockCompareDone, haccess, ht]
  rfl

end Reads

theorem gives_linkFrameSendEnd {x : Side} {s : State} (h : (s.link x).wire.isSome = true) :
    Gives (.linkFrameSendEnd x) s (s.setLink x { s.link x with wire := (s.link x).waiting, waiting := none }) := by
  obtain ⟨bytes, hwire⟩ := Option.isSome_iff_exists.mp h
  show execLinkFrameSendEnd x s = _
  simp only [execLinkFrameSendEnd, hwire]
  rfl

theorem sendOnLink_eq (x : Side) (bytes : List Byte) (s : State) :
    sendOnLink x bytes s =
      s.setLink x
        (if (s.link x).wire.isNone then { s.link x with wire := some bytes } else { s.link x with waiting := some bytes }) := by
  rw [sendOnLink, send_eq]

theorem noteCompare_eq (st : FrameStore) (a b : Fin 6) (lamp : Side) (k : Fin 5) (t : Transfer) :
    noteCompare st a b lamp k t =
      if (st.slot a).memory.block lamp k ≠ (st.slot b).memory.block lamp k then { t with map := t.map ++ [k] } else t :=
  if_congr (by simp [blocksDiffer]) rfl rfl

theorem modesByCode_code (m : BeamMode) : modesByCode[m.code]? = some m := by cases m <;> rfl

theorem reasonsByCode_code (r : FallbackReason) : reasonsByCode[r.code]? = some r := by cases r <;> rfl

theorem headerFrame_eq (x : Side) (t : Transfer) (h : FrameHeader) :
    headerFrame x t h =
      withCrc
        ([0x10, putByte t.tag] ++ put16 h.sequence ++
          [putByte h.mode.code, putByte h.reason.code,
            flagByte [h.lowOn, h.distHeld, if x = .left then h.yellowL else h.yellowR, if x = .left then h.clampedL else h.clampedR]] ++
          putSigned16 h.level ++ putSigned16 h.bend ++
          [flagByte ([0, 1, 2, 3, 4].map t.map.contains ++ [false, false, t.same])]) := by
  cases x <;> rfl

/-! ## LAMP_STATE and the status timer (R136 to R140) -/

theorem raiseNotice_setLink (k : NoticeKind) (x : Side) (l : LampLink) (s : State) :
    raiseNotice k (s.setLink x l) = (raiseNotice k s).setLink x l := by
  rw [raiseNotice_eq, raiseNotice_eq]
  cases x <;> rfl

/-- LINK_CHANGED is raised on coming UP or on another supply-ok flag. -/
theorem statusChanged_iff (l : LampLink) (ok : Bool) : statusChanged l ok = true ↔ l.state = .down ∨ l.supplyOk ≠ some ok := by
  simp [statusChanged]

theorem checkDeadLimit_eq (x : Side) (limit : Nat) (s : State) :
    checkDeadLimit x limit s =
      let flagged := s.setLink x { s.link x with deadLimitFlag := decide (limit ≤ (s.link x).dead.length) }
      if limit ≤ (s.link x).dead.length ∧ (s.link x).deadLimitFlag = false then
        raiseFault (linkFault .deadLimit x none) flagged
      else flagged := by
  unfold checkDeadLimit
  by_cases hlimit : limit ≤ (s.link x).dead.length
  · cases hflag : (s.link x).deadLimitFlag with
    | true =>
      have hsame : ({ s.link x with deadLimitFlag := true } : LampLink) = s.link x := by rw [← hflag]
      simp [hlimit, hflag, hsame, setLink_self]
    | false => simp [hlimit, hflag]
  · simp [hlimit]

/-- The link's record and the notice of a LAMP_STATE, before the check of the dead segments. -/
theorem takeLampState_eq (x : Side) (temp : Int) (ok : Bool) (entries : List Nat) (s : State) :
    takeLampState x temp ok entries s =
      let limit := (activeCal s).nat .deadLimit
      let taken := s.setLink x ((s.link x).reported limit temp ok entries)
      let noticed := if statusChanged (s.link x) ok = true then raiseNotice .linkChanged taken else taken
      if limit ≤ (deadSet entries).length ∧ (s.link x).deadLimitFlag = false then
        raiseFault (linkFault .deadLimit x none) noticed
      else noticed := by
  unfold takeLampState
  dsimp only
  rw [checkDeadLimit_eq]
  split
  · simp only [raiseNotice_setLink, link_setLink, setLink_setLink]
    rfl
  · simp only [link_setLink, setLink_setLink]
    rfl

theorem gives_statusTimerExpiry {x : Side} {s : State} {n : Nat} (h : (s.link x).statusTimer = some n) :
    Gives (.statusTimerExpiry x) s (raiseNotice .linkChanged (raiseFault (linkFault .linkDown x none) (linkLost x s))) := by
  show execStatusTimerExpiry x s = _
  simp only [execStatusTimerExpiry, h]
  rfl

/-- What losing a link leaves in a slot: both of its roles are gone, and R125 applies. -/
theorem dropRole_dropRole (x : Side) (sl : FrameSlot) :
    dropRole x .applied (dropRole x .incoming sl) =
      if sl.holders.has x .incoming = true ∨ sl.holders.has x .applied = true then
        if sl.state = .stored ∧ sl.newest = false ∧ (sl.holders.put x .incoming false).put x .applied false = noHolders then
          { sl with state := .free, holders := (sl.holders.put x .incoming false).put x .applied false, sequence := none }
        else { sl with holders := (sl.holders.put x .incoming false).put x .applied false }
      else sl := by
  have happlied (h : HolderSet) : (h.put x .incoming false).has x .applied = h.has x .applied := by rw [has_put]; simp
  by_cases hin : sl.holders.has x .incoming = true
  · have hany : sl.holders.has x .incoming = true ∨ sl.holders.has x .applied = true := .inl hin
    by_cases hap : sl.holders.has x .applied = true
    · have hne : sl.holders.put x .incoming false ≠ noHolders := fun h => by
        have hap' := happlied sl.holders
        rw [h, hap] at hap'
        cases x <;> cases hap'
      rw [if_pos hany, dropRole_eq x .incoming sl, if_pos hin, if_neg fun h => hne h.2.2, dropRole_eq,
        if_pos ((happlied _).trans hap)]
    · have hput : (sl.holders.put x .incoming false).put x .applied false = sl.holders.put x .incoming false :=
        put_self ((happlied _).trans (Bool.eq_false_iff.mpr hap))
      have hkept (sl' : FrameSlot) (h : sl'.holders = sl.holders.put x .incoming false) : dropRole x .applied sl' = sl' := by
        rw [dropRole_eq, if_neg]
        rw [h, happlied]
        exact hap
      rw [hput, if_pos hany, dropRole_eq x .incoming sl, if_pos hin]
      split <;> exact hkept _ rfl
  · have hput : sl.holders.put x .incoming false = sl.holders := put_self (Bool.eq_false_iff.mpr hin)
    rw [dropRole_eq x .incoming sl, if_neg hin, dropRole_eq, hput]
    by_cases hap : sl.holders.has x .applied = true
    · have hany : sl.holders.has x .incoming = true ∨ sl.holders.has x .applied = true := .inr hap
      rw [if_pos hany, if_pos hap]
    · rw [if_neg hap, if_neg (not_or.mpr ⟨hin, hap⟩)]

/-! ## FETCH (R143, R144, R151) -/

theorem gives_fetch {x : Side} {bytes : List Byte} {applied : Nat} {full absent : Bool} {s : State} {n : Fin 6}
    (hframe : lampFrame bytes = some (.fetch applied full absent)) (hup : (s.link x).state = .up) (hn : s.store.newest = some n) :
    Gives (.fetch x bytes) s (startTransfer x n applied full absent s) := by
  show execFetch x bytes s = _
  simp only [execFetch, hframe, hup, hn]
  rfl

theorem exec_fetch_down {x : Side} {bytes : List Byte} {applied : Nat} {full absent : Bool} {s : State}
    (hframe : lampFrame bytes = some (.fetch applied full absent)) (hdown : (s.link x).state = .down) :
    exec (.fetch x bytes) s = .next s := by
  show execFetch x bytes s = _
  simp only [execFetch, hframe, hdown, if_true]

theorem agreedBase_eq_some {l : LampLink} {applied : Nat} {full absent : Bool} {a : AppliedHold} :
    agreedBase l applied full absent = some a ↔ l.applied = some a ∧ full = false ∧ absent = false ∧ applied = a.sequence := by
  unfold agreedBase
  cases l.applied with
  | none => simp
  | some b =>
    by_cases h : full = false ∧ absent = false ∧ applied = b.sequence
    · simp only [if_pos h, Option.some.injEq]
      exact ⟨fun hb => ⟨hb, hb ▸ h⟩, fun hb => hb.1⟩
    · simp only [if_neg h, reduceCtorEq, Option.some.injEq, false_iff]
      rintro ⟨rfl, hagreed⟩
      exact h hagreed

/-- A take of the newest slot leaves it its place and puts the link's incoming role in its holder set. -/
theorem slot_take_newest {s : State} {n : Fin 6} (x : Side) (hn : (s.store.slot n).newest = true) :
    (s.store.take x n).slot n = { s.store.slot n with holders := (s.store.slot n).holders.put x .incoming true } := by
  have hput (h : HolderSet) : (h.put x .incoming false).put x .incoming true = h.put x .incoming true := by cases x <;> rfl
  rw [slot_take, if_pos rfl, dropRole_eq]
  split
  · rw [if_neg fun h => by rw [hn] at h; cases h.2.1]
    dsimp only
    rw [hput]
  · rfl

theorem newest_eq_some {st : FrameStore} {n : Fin 6} (hn : (st.slot n).newest = true)
    (honly : ∀ i, (st.slot i).newest = true → i = n) : st.newest = some n := by
  obtain ⟨m, hm⟩ := Option.isSome_iff_exists.mp
    (List.find?_isSome.mpr ⟨n, mem_slotNumbers n, hn⟩ : (slotNumbers.find? fun i => (st.slot i).newest).isSome = true)
  have hnewest : (st.slot m).newest = true := List.find?_some (p := fun i => (st.slot i).newest) hm
  rw [FrameStore.newest, hm, honly m hnewest]

theorem withdrawn_takenState (x : Side) (n : Fin 6) (s : State) : Withdrawn x s (takenState x n s) := by
  rw [Withdrawn, takenState_store, take_eq]

theorem withdrawn_compareReady (x : Side) (n : Fin 6) (s : State) : Withdrawn x s (compareReady x n s) := by
  rw [Withdrawn, compareReady_store, take_eq]

theorem memory_take (st : FrameStore) (x : Side) (n i : Fin 6) : ((st.take x n).slot i).memory = (st.slot i).memory := by
  rw [slot_take]
  split
  next h =>
    subst h
    exact dropRole_memory _ _ _
  next => exact dropRole_memory _ _ _

theorem linkFrame_takenState (x : Side) (n : Fin 6) (s : State) : LinkFrame x s (takenState x n s) :=
  linkFrame_setLink x _ _ fun i => by rw [memory_take, withdrawLink_slot]

theorem samePorts_takenState (x : Side) (n : Fin 6) (s : State) : SamePorts s (takenState x n s) := samePorts_setLink x s _ _

theorem linkFrame_compareReady (x : Side) (n : Fin 6) (s : State) : LinkFrame x s (compareReady x n s) :=
  (linkFrame_takenState x n s).trans (linkFrame_setLink x (takenState x n s).store _ fun _ => rfl)

theorem samePorts_compareReady (x : Side) (n : Fin 6) (s : State) : SamePorts s (compareReady x n s) :=
  (samePorts_takenState x n s).trans (samePorts_setLink x _ (takenState x n s).store _)

section Fetch

variable {x : Side} {s : State} (n : Fin 6) (applied : Nat) (full absent : Bool)

theorem linkFrame_startTransfer : LinkFrame x s (startTransfer x n applied full absent s) := by
  rw [startTransfer_eq]
  dsimp only
  split
  · exact (linkFrame_takenState x n s).trans (linkFrame_beginAttempt x _ _)
  · split
    · exact (linkFrame_takenState x n s).trans (linkFrame_beginAttempt x _ _)
    · exact linkFrame_requestPort (linkFrame_compareReady x n s) _ _

theorem samePorts_startTransfer (hno : NoDiagAtIdlePort s.store) : SamePorts s (startTransfer x n applied full absent s) := by
  have htaken := (withdrawn_takenState x n s).noDiag hno
  rw [startTransfer_eq]
  dsimp only
  split
  · exact (samePorts_takenState x n s).trans (samePorts_beginAttempt x _ htaken)
  · split
    · exact (samePorts_takenState x n s).trans (samePorts_beginAttempt x _ htaken)
    · exact samePorts_requestPort (samePorts_compareReady x n s) rfl ((withdrawn_compareReady x n s).noDiag hno)

/-- An attempt that a FETCH begins. -/
theorem fetchAttempt (t : Transfer) (hstep : t.step = .header) (start : Transfer) (hstart : start.step = .header)
    (hslot : t.slot = start.slot) :
    AttemptBegun x t (s.setLink x { s.link x with tagCounter := ((s.link x).tagCounter + 1) % 16 })
        (beginAttempt x t (takenState x n s)) ∧
      AttemptPort x start s (beginAttempt x t (takenState x n s)) := by
  refine ⟨attemptBegun_beginAttempt ?_, attemptPort_beginAttempt t (hstep.trans hstart.symm) hslot (.inr (withdrawn_takenState x n s))⟩
  rw [takenState_link, link_setLink]

end Fetch

/-! ## Replies (R147 to R150) -/

section Replies

variable {x : Side} {bytes : List Byte} {tag : Nat} {step : Option TransferStep} {s : State}

/-- A reply that names no current step of a transfer under way. -/
theorem unmatched_cases (h : (s.link x).state = .down ∨ ∀ t ∈ (s.link x).transfer, t.tag ≠ tag ∨ step ≠ some t.step ∨ t.step = .compare)
    (hcompare : step ≠ some .compare) {t : Transfer} (ht : matchedTransfer (s.link x) tag = some t) : step ≠ some t.step := by
  obtain ⟨hup, htransfer, htag⟩ : (s.link x).state = .up ∧ (s.link x).transfer = some t ∧ t.tag = tag := by
    unfold matchedTransfer at ht
    split at ht
    next t' hup htransfer =>
      split at ht
      next htag =>
        cases ht
        exact ⟨hup, htransfer, htag⟩
      next => cases ht
    next => cases ht
  rcases h with hdown | hnone
  · cases hup.symm.trans hdown
  · rcases hnone t htransfer with hne | hne | hcmp
    · exact absurd htag hne
    · exact hne
    · rw [hcmp]
      exact hcompare

theorem exec_ack_ignored (hframe : lampFrame bytes = some (.ack tag step))
    (h : (s.link x).state = .down ∨ ∀ t ∈ (s.link x).transfer, t.tag ≠ tag ∨ step ≠ some t.step ∨ t.step = .compare) :
    exec (.ack x bytes) s = .next s := by
  show execAck x bytes s = _
  simp only [execAck, hframe]
  split
  next t ht => rw [if_neg (unmatched_cases h (reply_step_ne_compare (.inl hframe)) ht)]
  next => rfl

theorem exec_retry_ignored (hframe : lampFrame bytes = some (.retry tag step))
    (h : (s.link x).state = .down ∨ ∀ t ∈ (s.link x).transfer, t.tag ≠ tag ∨ step ≠ some t.step ∨ t.step = .compare) :
    exec (.retry x bytes) s = .next s := by
  show execRetry x bytes s = _
  simp only [execRetry, hframe]
  split
  next t ht => rw [if_neg (unmatched_cases h (reply_step_ne_compare (.inr hframe)) ht)]
  next => rfl

variable {t : Transfer} (ht : (s.link x).transfer = some t)
include ht

theorem gives_ack (hup : (s.link x).state = .up) (hframe : lampFrame bytes = some (.ack t.tag (some t.step))) :
    Gives (.ack x bytes) s (takeAck x t s) := by
  show execAck x bytes s = _
  simp only [execAck, hframe, matchedTransfer_eq_some hup ht, if_true]
  rfl

theorem gives_retry (hup : (s.link x).state = .up) (hframe : lampFrame bytes = some (.retry t.tag (some t.step))) :
    Gives (.retry x bytes) s (demandResend x t s) := by
  show execRetry x bytes s = _
  simp only [execRetry, hframe, matchedTransfer_eq_some hup ht, if_true]
  rfl

theorem gives_replyTimeout (hrunning : t.replyTimer.isSome = true) : Gives (.replyTimeout x) s (demandResend x t s) := by
  obtain ⟨n, hn⟩ := Option.isSome_iff_exists.mp hrunning
  show execReplyTimeout x s = _
  simp only [execReplyTimeout, ht, hn]
  rfl

end Replies

/-- The step after a header or a block: the first block of the map that is still to come, or END. -/
theorem nextStep_header (map : List (Fin 5)) : nextStep map .header = (map.head?.map TransferStep.block).getD .finish := by
  cases map <;> rfl

theorem nextStep_after_block (map : List (Fin 5)) (k : Fin 5) :
    nextStep map (.block k) = ((map.filter fun j => decide (k < j)).head?.map TransferStep.block).getD .finish := by
  rw [nextStep, List.head?_filter]
  cases map.find? fun j => decide (k < j) <;> rfl

section Completed

variable (x : Side) (t : Transfer) (s : State)

theorem slot_completeTransfer (i : Fin 6) : (completeTransfer x t s).store.slot i = promoteSlot x (s.store.slot i) := by
  rw [completeTransfer_store, FrameStore.promote, slot_mapSlots, withdrawLink_slot]

theorem linkFrame_completeTransfer : LinkFrame x s (completeTransfer x t s) := by
  have hmemory (i : Fin 6) : ((completeTransfer x t s).store.slot i).memory = (s.store.slot i).memory := by
    rw [slot_completeTransfer]
    obtain ⟨-, hm, -⟩ := newestKept_promoteSlot x (s.store.slot i)
    exact hm
  have hother : (completeTransfer x t s).link (otherSide x) = s.link (otherSide x) := completeTransfer_link_ne (otherSide_ne x) t s
  simp [LinkFrame, hmemory, hother]

theorem samePorts_completeTransfer : SamePorts s (completeTransfer x t s) := by simp [SamePorts]

theorem withdrawn_completeTransfer : Withdrawn x s (completeTransfer x t s) := completeTransfer_store_eq x t s

theorem linkFrame_linkLost : LinkFrame x s (linkLost x s) := by
  have hmemory (i : Fin 6) : ((linkLost x s).store.slot i).memory = (s.store.slot i).memory := by
    rw [slot_linkLost, dropRole_memory, dropRole_memory]
  have hother : (linkLost x s).link (otherSide x) = s.link (otherSide x) := linkLost_link_ne (otherSide_ne x) s
  simp [LinkFrame, hmemory, hother]

theorem samePorts_linkLost : SamePorts s (linkLost x s) := by simp [SamePorts]

theorem withdrawn_linkLost : Withdrawn x s (linkLost x s) := linkLost_store_eq x s

end Completed

/-- A wanted compare, with the noted transfer given. -/
theorem compareNoted {x : Side} {s : State} {a b : Fin 6} {k : Fin 5} {t noted : Transfer}
    (hgives : Gives (.blockCompareDone x) s
      (afterCompare x a b (noteCompare s.store a b x k t) (releasePort (afterNote x a b x k t s)) k))
    (hnoted : noteCompare s.store a b x k t = noted) :
    (∀ h : k.val + 1 < 5,
      Gives (.blockCompareDone x) s
        (requestPort (linkRequester x) (.compare a b x ⟨k.val + 1, h⟩)
          (releasePort (s.setLink x { s.link x with transfer := some noted })))) ∧
    (k.val = 4 → (∀ r, r ≠ .diag → ∀ q ∈ s.store.waiting r, q.isDiag = false) →
      ∃ u, Gives (.blockCompareDone x) s u ∧ LinkFrame x s u ∧
        SamePorts (releasePort (s.setLink x { s.link x with transfer := some noted })) u ∧ u.store.slots = s.store.slots ∧
        AttemptBegun x { noted with step := .header } s u ∧
        PortAsked x (.headerRead noted.slot) (releasePort (s.setLink x { s.link x with transfer := some noted })) u) := by
  rw [afterNote, hnoted] at hgives
  refine ⟨fun h => ?_, fun hlast halone => ?_⟩
  · have hnext (v : State) : afterCompare x a b noted v k = requestPort (linkRequester x) (.compare a b x ⟨k.val + 1, h⟩) v := by
      fin_cases k
      · rfl
      · rfl
      · rfl
      · rfl
      · exact absurd h (by decide)
    rwa [hnext] at hgives
  · have hk : k = 4 := Fin.ext hlast
    subst hk
    have hset : LinkFrame x s (s.setLink x { s.link x with transfer := some noted }) := linkFrame_setLink x s.store _ fun _ => rfl
    have hreleased : LinkFrame x s (releasePort (s.setLink x { s.link x with transfer := some noted })) := by
      simp only [LinkFrame] at hset ⊢
      simp only [releasePort_frame, link_releasePort, slot_withSlots (releasePort_slots _)]
      exact hset
    have hidle : NoDiagAtIdlePort (releasePort (s.setLink x { s.link x with transfer := some noted })).store := by
      refine noDiag_of_noRequest (arbitrate_noRequest fun r hne q hq => halone r hne q ?_)
      rw [waiting_withBusy] at hq
      simpa using hq
    have hlink : (releasePort (s.setLink x { s.link x with transfer := some noted })).link x =
        { s.link x with transfer := some noted } := by
      rw [link_releasePort, link_setLink]
    have hslots : (releasePort (s.setLink x { s.link x with transfer := some noted })).store.slots = s.store.slots := by simp
    generalize releasePort (s.setLink x { s.link x with transfer := some noted }) = v at *
    refine ⟨beginAttempt x { noted with step := .header } v, hgives, hreleased.trans (linkFrame_beginAttempt x _ v),
      samePorts_beginAttempt x _ hidle, (slots_beginAttempt x _ v).trans hslots, ⟨?_, ?_⟩, ?_⟩
    · rw [beginAttempt_link, if_neg (by simp), hlink]
      rfl
    · rw [beginAttempt_eq]
      exact (withdrawn_attemptReady (x := x) (s := v) (v := v) { noted with step := .header } (.inl rfl)).linkAsks rfl
    · exact attemptPort_beginAttempt (t := { noted with step := .header }) _ rfl rfl (.inl rfl)

/-- The step that follows, for the blocks still to come. -/
theorem nextAttempt (x : Side) (t : Transfer) (s : State) (after : List (Fin 5)) :
    let u := beginAttempt x { t with step := (after.head?.map TransferStep.block).getD .finish } s
    match after with
    | [] => AttemptBegun x { t with step := .finish } s u ∧ AttemptPort x { t with step := .finish } s u
    | j :: _ => AttemptBegun x { t with step := .block j } s u ∧ AttemptPort x { t with step := .block j } s u := by
  cases after with
  | nil => exact ⟨attemptBegun_beginAttempt rfl, attemptPort_beginAttempt _ rfl rfl (.inl rfl)⟩
  | cons j rest => exact ⟨attemptBegun_beginAttempt rfl, attemptPort_beginAttempt _ rfl rfl (.inl rfl)⟩

end Sys2Proof.Machine

namespace Sys2Proof.Proofs

open Sys2Proof.Machine

/-- Settles O38: a wanted result forms its frame, which is handed to the wire before the port is released. -/
theorem linkReadFormsItsFrame : Obligations.LinkReadFormsItsFrame := by
  refine ⟨crcOk, sentFieldsOk, modesByCode_code, reasonsByCode_code, fun x s => ?_⟩
  refine ⟨fun w i hbusy hr ha hw => gives_headerRead_discarded hbusy hr ha hw,
    fun w i k hbusy hr ha hw => gives_blockRead_discarded hbusy hr ha hw, fun t w i ht hbusy hr ha hw => ?_,
    fun t w i k ht hbusy hr ha hw => ?_, fun hwire => ?_⟩
  · have hgives := gives_headerRead_sent hbusy hr ht hw ha
    rw [sendOnLink_eq, headerFrame_eq] at hgives
    cases x <;> exact hgives
  · have hgives := gives_blockRead_sent hbusy hr ht hw ha
    rwa [sendOnLink_eq] at hgives
  · exact ⟨_, gives_linkFrameSendEnd hwire, linkFrame_setLink x s.store _ fun _ => rfl, samePorts_setLink x s s.store _, by simp,
      link_setLink _ _ _⟩

/-- Settles O39: the map is noted, the port released, and then the next compare or the first attempt of HEADER asks. -/
theorem blockComparesFormTheMap : Obligations.BlockComparesFormTheMap := by
  intro x s w a b k hbusy hr ha
  refine ⟨fun hw => gives_compare_discarded hbusy hr ha hw, fun t ht hw => ?_⟩
  have hgives := gives_compare_noted hbusy hr ht hw ha
  exact compareNoted hgives (noteCompare_eq s.store a b x k t)

/-- Settles O40. -/
theorem lampStateReplacesLampStatus : Obligations.LampStateReplacesLampStatus := by
  intro x bytes temp ok entries s hframe
  refine ⟨deadSet entries, deadSet_pairwise entries, mem_deadSet entries, ?_⟩
  show execLampState x bytes s = _
  simp only [execLampState, hframe, takeLampState_eq, statusChanged_iff]
  rfl

/-- Settles O41: the transfer is abandoned and both roles leave their slots. -/
theorem statusTimerTakesTheLinkDown : Obligations.StatusTimerTakesTheLinkDown := by
  intro x s n htimer
  have hport := (withdrawn_linkLost x s).portKept
  exact ⟨linkLost x s, gives_statusTimerExpiry htimer, linkFrame_linkLost x s, samePorts_linkLost x s, linkLost_link x s,
    hport.linkAsks_eq, hport, fun i => (slot_linkLost x s i).trans (dropRole_dropRole x _)⟩

/-- Settles O42: the three rows of Table 8-3 are the two attempts of HEADER and the first compare. -/
theorem fetchTakesTheNewestFrame : Obligations.FetchTakesTheNewestFrame := by
  intro x bytes applied full absent s hframe hno
  refine ⟨exec_fetch_down hframe, fun hup n q hn honly hq => ?_⟩
  have hnewest := newest_eq_some hn honly
  have hstart : newTransfer (s.link x) (s.store.slot n) n =
      { tag := ((s.link x).tagCounter + 1) % 16, slot := n, sequence := q, map := [0, 1, 2, 3, 4], same := false, step := .header
        retries := 0, replyTimer := none } := by rw [newTransfer, hq]; rfl
  have heq := startTransfer_eq x n applied full absent s
  rw [hstart] at heq
  dsimp only at heq
  refine ⟨startTransfer x n applied full absent s, gives_fetch hframe hup hnewest, linkFrame_startTransfer n applied full absent,
    samePorts_startTransfer n applied full absent hno, fun i => ?_, fun hnone => ?_, fun a hagreed hslot => ?_,
    fun a hagreed hslot => ?_⟩
  · rw [slot_startTransfer]
    split
    next hi =>
      subst hi
      exact slot_take_newest x hn
    next hi =>
      refine ⟨abandonTransfer x s, abandonTransfer_incomingReleased x s, ?_⟩
      rw [slot_take, if_neg hi, slot_abandonTransfer]
  · have hbase : agreedBase (s.link x) applied full absent = none := by
      cases hb : agreedBase (s.link x) applied full absent with
      | none => rfl
      | some a => exact absurd (agreedBase_eq_some.mp hb) (hnone a)
    rw [heq, hbase]
    exact fetchAttempt n _ rfl _ rfl rfl
  · rw [heq, agreedBase_eq_some.mpr hagreed]
    dsimp only
    rw [if_pos hslot]
    exact fetchAttempt n _ rfl _ rfl rfl
  · have hready := withdrawn_compareReady x n s
    rw [heq, agreedBase_eq_some.mpr hagreed]
    dsimp only
    rw [if_neg hslot]
    refine ⟨?_, hready.linkAsks rfl, hready.portAsked rfl⟩
    rw [link_requestPort, compareReady_link, hstart]

/-- Settles O43: END's ACK completes the transfer; any other begins the step after the current one. -/
theorem ackAdvancesOrCompletes : Obligations.AckAdvancesOrCompletes := by
  intro x bytes tag step s hframe
  refine ⟨exec_ack_ignored hframe, ?_⟩
  rintro hup t ht rfl rfl hno
  have hgives := gives_ack ht hup hframe
  refine ⟨fun hfinish => ?_, fun hsending => ?_⟩
  · rw [takeAck_finish s hfinish] at hgives
    have hport := (withdrawn_completeTransfer x t s).portKept
    exact ⟨_, hgives, linkFrame_completeTransfer x t s, samePorts_completeTransfer x t s, hport.linkAsks_eq, hport,
      completeTransfer_link x t s, slot_completeTransfer x t s⟩
  · have hfinish : t.step ≠ .finish := by rintro h; simp [h] at hsending
    rw [takeAck_step s hfinish] at hgives
    refine ⟨_, hgives, linkFrame_beginAttempt x _ s, samePorts_beginAttempt x _ hno, slots_beginAttempt x _ s, ?_⟩
    rcases hsending with hheader | ⟨k, hblock⟩
    · rw [hheader, nextStep_header]
      exact nextAttempt x t s t.map
    · rw [hblock, nextStep_after_block]
      exact nextAttempt x t s (t.map.filter fun j => decide (k < j))

/-- Settles O44: below three resends the attempt begins anew, and at three the transfer is abandoned. -/
theorem resendDemandRetriesOrFails : Obligations.ResendDemandRetriesOrFails := by
  refine ⟨fun x bytes tag step s hframe => exec_retry_ignored hframe, fun x c s t ht hstep hno hc => ?_⟩
  have hgives : Gives c s (demandResend x t s) := by
    rcases hc with ⟨bytes, rfl, hframe, hup⟩ | ⟨rfl, hrunning⟩
    · exact gives_retry ht hup hframe
    · exact gives_replyTimeout ht hrunning
  refine ⟨fun hagain => ?_, fun hlast => ?_⟩
  · rw [demandResend_again s hagain] at hgives
    exact ⟨_, hgives, linkFrame_beginAttempt x _ s, samePorts_beginAttempt x _ hno, slots_beginAttempt x _ s,
      attemptBegun_beginAttempt rfl, attemptPort_beginAttempt _ rfl rfl (.inl rfl)⟩
  · rw [demandResend_failed s (by omega)] at hgives
    have hport := abandonTransfer_portKept x s
    exact ⟨abandonTransfer x s, hgives, abandonTransfer_linkFrame x s, abandonTransfer_samePorts x s,
      abandonTransfer_incomingReleased x s, hport.linkAsks_eq, hport, abandonTransfer_link x s⟩

end Sys2Proof.Proofs
end

section
/-! SUPPORT. The values of segments and distributions lie in 0 to 255 (5.3, R116): the cache and the fill buffer, the stages of the
compute, the frame memory, and then the proof of the statement. -/

namespace Sys2Proof.Machine

theorem inByte_zeros (n : Nat) : InByte (List.replicate n 0) := fun v hv => by
  rw [List.eq_of_mem_replicate hv]
  exact Nat.zero_le _

theorem InByte.getD {values : List Nat} (h : InByte values) (i : Nat) : values.getD i 0 ≤ 255 := by
  by_cases hi : i < values.length
  · rw [List.getD_eq_getElem _ _ hi]
    exact h _ (List.getElem_mem hi)
  · rw [List.getD_eq_default _ _ (by omega)]
    exact Nat.zero_le _

theorem InByte.append {a b : List Nat} (ha : InByte a) (hb : InByte b) : InByte (a ++ b) := fun v hv =>
  (List.mem_append.mp hv).elim (ha v) (hb v)

theorem inByte_distValues (data : List Byte) : InByte (distValues data) := fun v hv => by
  obtain ⟨i, -, rfl⟩ := List.mem_map.mp hv
  have hlt := byteAt_lt data (2 + i)
  omega

theorem InByte.blockValues {values : List Nat} (h : InByte values) (k : Fin 5) : InByte (blockValues values k) := fun v hv => by
  obtain ⟨i, -, rfl⟩ := List.mem_map.mp hv
  exact h.getD _

/-! ## The cache (R65 to R80) -/

/-- The values of every slot and of an open fill. -/
def CacheBytes (c : DistCache) : Prop := (∀ i : Fin 8, InByte (c.slots.get i).values) ∧ ∀ f ∈ c.fill, InByte f.values

section CacheBytes

variable {c : DistCache}

theorem CacheBytes.of_values {c' : DistCache} (h : CacheBytes c)
    (hvalues : ∀ i, (c'.slots.get i).values = (c.slots.get i).values) (hfill : c'.fill = c.fill ∨ c'.fill = none) :
    CacheBytes c' := by
  obtain ⟨hslots, hopen⟩ := h
  refine ⟨fun i => hvalues i ▸ hslots i, fun f hf => ?_⟩
  rcases hfill with hsame | hnone
  · exact hopen f (hsame ▸ hf)
  · rw [hnone] at hf
    cases hf

theorem CacheBytes.setSlot (h : CacheBytes c) (d : Nat) (w : Bool) {sl : CacheSlot} (hsl : InByte sl.values) :
    CacheBytes (c.setSlot d w sl) := by
  obtain ⟨hslots, hopen⟩ := h
  refine ⟨fun i => ?_, hopen⟩
  rw [get_setSlot]
  split
  · exact hsl
  · exact hslots i

theorem CacheBytes.slot (h : CacheBytes c) (d : Nat) (w : Bool) : InByte (c.slot d w).values := h.1 _

theorem CacheBytes.writeVictim (h : CacheBytes c) (d : Nat) (w : Bool) {values : List Nat} (hvalues : InByte values) :
    CacheBytes (writeVictim d values w c) := by
  have hwritten := h.setSlot d w (sl := filledSlot d values) hvalues
  unfold Machine.writeVictim
  dsimp only
  split
  · exact hwritten.setSlot d (!w) (h.slot d (!w))
  · exact hwritten

theorem CacheBytes.addHistory (h : CacheBytes c) (d : Nat) (o : LookupOutcome) : CacheBytes (addHistory d o c) :=
  h.of_values (fun _ => rfl) (.inl rfl)

theorem CacheBytes.cleared (h : CacheBytes c) (spare : Bool → Bool) :
    CacheBytes (c.mapSlots fun w sl => if spare w then sl else dropSlot sl) :=
  h.of_values (fun i => by rw [get_mapSlots]; split <;> rfl) (.inl rfl)

theorem CacheBytes.applyLock (h : CacheBytes c) (level : Nat) (protect way0 way1 : Bool) :
    CacheBytes (applyLock level protect way0 way1 c) :=
  h.of_values (fun i => by rw [Machine.applyLock, get_mapSlots]; split <;> rfl) (.inl rfl)

end CacheBytes

section CacheStates

variable {s : State} (h : CacheBytes s.cache)
include h

theorem cacheBytes_fillWritten (d : Nat) : CacheBytes (fillWritten d s).cache := by
  rw [fillWritten_touches]
  exact h.of_values (fun _ => rfl) (.inl rfl)

theorem cacheBytes_placeFill (d : Nat) {values : List Nat} (hvalues : InByte values) : CacheBytes (placeFill d values s).cache := by
  have hwritten {v : State} (w : Bool) (hv : v.cache = writeVictim d values w s.cache) : CacheBytes (fillWritten d v).cache :=
    cacheBytes_fillWritten (by rw [hv]; exact h.writeVictim d w hvalues) d
  unfold placeFill
  split
  next w _ =>
    exact cacheBytes_fillWritten (s := { s with cache := s.cache.setSlot d w (filledSlot d values) })
      (h.setSlot d w hvalues) d
  next =>
    split
    · simp only [fillNoRoom, raiseFault_frame]
      exact h.of_values (fun _ => rfl) (.inl rfl)
    next w _ => exact hwritten w rfl
    · exact hwritten _ rfl

theorem cacheBytes_missRequest (d : Nat) : CacheBytes (missRequest d s).cache := by
  have hnew : CacheBytes (newRequest d s).cache := h.of_values (fun _ => rfl) (.inl rfl)
  unfold missRequest
  split
  · exact h
  · split
    · split
      · exact h
      · exact hnew
    · exact hnew

theorem cacheBytes_lookupMiss (d : Nat) : CacheBytes (lookupMiss d s).cache := by
  have hcache : (lookupMiss d s).cache = addHistory d .miss (missRequest d s).cache := by simp [lookupMiss]
  rw [hcache]
  exact (cacheBytes_missRequest h d).addHistory d .miss

theorem cacheBytes_lookupParity (d sequence : Nat) (w : Bool) : CacheBytes (lookupParity d sequence w s).cache := by
  rw [lookupParity_eq]
  simp only [raiseFault_frame]
  exact h.setSlot d w (h.slot d w)

/-- A lookup keeps the values of the cache, and what it copies are those of a slot. -/
theorem cacheBytes_lookup (d sequence : Nat) (hcopy : ∀ values ∈ s.builder.workingCopy, InByte values) :
    CacheBytes (lookup d sequence s).1.cache ∧ ∀ values ∈ (lookup d sequence s).1.builder.workingCopy, InByte values := by
  unfold lookup
  split
  · exact ⟨cacheBytes_lookupMiss h d, by simpa using hcopy⟩
  next w _ =>
    split
    · refine ⟨(h.setSlot d w (sl := { s.cache.slot d w with lastUse := sequence }) (h.slot d w)).addHistory d .hit, ?_⟩
      rintro values ⟨⟩
      exact h.slot d w
    · exact ⟨cacheBytes_lookupMiss (cacheBytes_lookupParity h d sequence w) d, by simpa using hcopy⟩

theorem cacheBytes_lookupFor (mode : BeamMode) (sequence : Nat) (hcopy : ∀ values ∈ s.builder.workingCopy, InByte values) :
    CacheBytes (lookupFor mode sequence s).1.cache ∧
      ∀ values ∈ (lookupFor mode sequence s).1.builder.workingCopy, InByte values := by
  unfold lookupFor
  split
  · exact ⟨h, hcopy⟩
  · exact cacheBytes_lookup h _ sequence hcopy

theorem CacheChange.bytes {u : State} (hu : CacheChange s u) : CacheBytes u.cache := by
  cases hu with
  | opened d data =>
    refine ⟨h.1, ?_⟩
    rintro f ⟨⟩
    exact inByte_distValues data
  | placed f data hd hf =>
    have hclosed : CacheBytes { s.cache with fill := none } := h.of_values (fun _ => rfl) (.inr rfl)
    exact cacheBytes_placeFill (s := { s with cache := { s.cache with fill := none } }) hclosed f.id
      ((h.2 f hf).append (inByte_distValues data))
  | dropped d w => exact h.setSlot d w (h.slot d w)
  | cleared spare => exact h.cleared spare
  | locked level protect way0 way1 => exact h.applyLock level protect way0 way1
  | sentAgain r => exact h.of_values (fun _ => rfl) (.inl rfl)
  | givenUp r =>
    simp only [raiseFault_frame]
    exact h.of_values (fun _ => rfl) (.inl rfl)

end CacheStates

theorem cacheBytes_reset : CacheBytes resetCache := by
  refine ⟨fun i => ?_, by rintro f ⟨⟩⟩
  rw [get_resetCache_slots]
  exact inByte_zeros 120

/-! ## The compute (R112 to R123) -/

theorem template_le {dist : List Nat} (h : InByte dist) (lamp : Side) (r : Nat) (j : Int) : template dist lamp r j ≤ 255 := by
  rw [template_eq]
  split
  · split <;> exact h.getD _
  · exact Nat.zero_le _

/-- A shifted value is a weighted mean of two template values. -/
theorem shiftedValue_le {dist : List Nat} (h : InByte dist) (lamp : Side) (bend : Int) (r col : Nat) :
    shiftedValue dist lamp bend r col ≤ 255 := by
  unfold shiftedValue floorDiv
  dsimp only
  have hweight : (bend - 50 * (bend / ((50 : Nat) : Int))).toNat ≤ 50 := by omega
  generalize (bend - 50 * (bend / ((50 : Nat) : Int))).toNat = weight at hweight
  have ha := Nat.mul_le_mul_right (50 - weight) (template_le h lamp r ((col : Int) - bend / ((50 : Nat) : Int)))
  have hb := Nat.mul_le_mul_right weight (template_le h lamp r ((col : Int) - bend / ((50 : Nat) : Int) - 1))
  omega

theorem baseValue_le {workingCopy : Option (List Nat)} (h : ∀ values ∈ workingCopy, InByte values) (mode : BeamMode) (lamp : Side)
    (bend : Int) (r col : Nat) : baseValue mode workingCopy lamp bend r col ≤ 255 := by
  have hdist : InByte (workingCopy.getD []) := by
    cases workingCopy with
    | none => exact fun v hv => by cases hv
    | some values => exact h values rfl
  unfold baseValue
  split
  · exact shiftedValue_le hdist _ _ _ _
  · exact Nat.zero_le _

theorem inByte_risenValues {x : LampInputs} (h : ∀ values ∈ x.workingCopy, InByte values) : InByte (risenValues x) := fun v hv => by
  obtain ⟨i, -, rfl⟩ := List.mem_map.mp hv
  have hsegment := segmentValue_le_zoned x (r := segmentRow i) (col := segmentColumn i) (Nat.mod_lt _ (by decide))
  have hindex : segmentRow i * 40 + segmentColumn i = i := Nat.div_add_mod' i 40
  rw [hindex] at hsegment
  exact hsegment.trans ((zoned_le_base x).trans (baseValue_le h _ _ _ _ _))

theorem InByte.budgetValues {values : List Nat} (h : InByte values) (yellowBand beff : Nat) :
    InByte (budgetValues (budgetBand yellowBand beff values.sum) beff values) := by
  by_cases hred : budgetBand yellowBand beff values.sum = .red
  · have hover : beff < values.sum := (budgetBand_eq_red_iff _ _ _).mp hred
    rw [hred, budgetValues_red]
    intro v hv
    obtain ⟨n, hn, rfl⟩ := List.mem_map.mp hv
    exact (Nat.div_le_of_le_mul (by rw [Nat.mul_comm values.sum]; exact Nat.mul_le_mul_left _ hover.le)).trans (h n hn)
  · rwa [budgetValues_of_ne_red _ _ hred]

theorem inByte_buildFrame {workingCopy : Option (List Nat)} (h : ∀ values ∈ workingCopy, InByte values) (c : CalSet)
    (snap : Snapshot) (sequence : Nat) (lamp : Side) : InByte ((buildFrame c snap workingCopy sequence).values lamp) := by
  have hrisen : InByte (risenValues (lampInputs c snap workingCopy lamp)) := inByte_risenValues h
  rw [buildFrame_values, lampResult]
  dsimp only
  generalize risenValues (lampInputs c snap workingCopy lamp) = values at hrisen
  exact hrisen.budgetValues _ _

/-! ## The builder and the frame memory -/

/-- The values of the working copy, the mirror and the frame in commit. -/
def BuilderBytes (b : PatternBuilder) : Prop :=
  (∀ values ∈ b.workingCopy, InByte values) ∧ InByte b.mirror.left ∧ InByte b.mirror.right ∧
    ∀ f ∈ b.phase.frame, InByte f.left ∧ InByte f.right

/-- The values of every slot's frame memory. -/
def MemoryBytes (memory : Fin 6 → FrameMemory) : Prop :=
  ∀ i : Fin 6, ∀ k : Fin 5, InByte ((memory i).block .left k) ∧ InByte ((memory i).block .right k)

theorem segmentInv_iff (s : State) : SegmentInv s ↔ CacheBytes s.cache ∧ BuilderBytes s.builder ∧ MemoryBytes s.memory := by
  simp only [SegmentInv, CacheBytes, BuilderBytes, MemoryBytes, State.memory, and_assoc]

theorem inByte_darkValues : InByte darkValues := inByte_zeros 120

/-- A builder that is idle behind the LIMP frame. -/
theorem builderBytes_limp {b : PatternBuilder} (hcopy : ∀ values ∈ b.workingCopy, InByte values) (hphase : b.phase = .idle)
    (hmirror : b.mirror = frameToMirror limpFrame) : BuilderBytes b := by
  refine ⟨hcopy, hmirror ▸ inByte_darkValues, hmirror ▸ inByte_darkValues, fun f hf => ?_⟩
  rw [hphase] at hf
  cases hf

theorem inByte_limpMemory (lamp : Side) (k : Fin 5) : InByte ((frameToMemory limpFrame).block lamp k) := by
  rw [block_limpFrame]
  exact inByte_zeros 24

theorem memory_installed {s u : State} (h : u.store.slots = s.store.installLimp.slots) (i : Fin 6) :
    u.memory i = if i = 0 then frameToMemory limpFrame else s.memory i := by
  have hslot := (slot_withSlots h i).trans (slot_installLimp s.store i)
  rw [State.memory, hslot]
  split <;> rfl

theorem MemoryBytes.installed {s u : State} (hs : MemoryBytes s.memory) (h : u.store.slots = s.store.installLimp.slots) :
    MemoryBytes u.memory := by
  intro i k
  rw [memory_installed h]
  split
  · exact ⟨inByte_limpMemory _ k, inByte_limpMemory _ k⟩
  · exact hs i k

/-! ## Every change -/

section Changes

variable {s u : State}

theorem SegmentInv.of_same (h : SegmentInv s) (hcache : u.cache = s.cache) (hbuilder : u.builder = s.builder)
    (hmemory : u.memory = s.memory) : SegmentInv u := by
  rw [segmentInv_iff] at h ⊢
  rwa [hcache, hbuilder, hmemory]

theorem memory_of_slots (h : u.store.slots = s.store.slots) : u.memory = s.memory := funext fun i => by
  rw [State.memory, slot_withSlots h]
  rfl

theorem BuildChange.segmentInv (h : BuildChange s u) (hs : SegmentInv s) : SegmentInv u := by
  obtain ⟨hcache, hbuilder, hmemory⟩ := (segmentInv_iff s).mp hs
  obtain ⟨hcopy, hleft, hright, hframe⟩ := id hbuilder
  cases h with
  | overrun b =>
    have hrestarted : SegmentInv (restartTimer s) := (segmentInv_iff _).mpr ⟨hcache, hbuilder, hmemory⟩
    exact hrestarted.of_same (by simp) (by simp) (memory_of_slots (by simp))
  | started slot =>
    obtain ⟨hcache', hcopy'⟩ := cacheBytes_lookupFor hcache (selection s).mode (nextSequence s.builder.mirror.sequence) hcopy
    obtain ⟨copy, hlookup⟩ := lookupFor_builder (selection s).mode (nextSequence s.builder.mirror.sequence) s
    rw [startBuild_restartTimer, segmentInv_iff]
    refine ⟨hcache', ⟨hcopy', ?_, ?_, by rintro f ⟨⟩⟩, fun i k => ?_⟩
    · dsimp only
      rw [buildLookup, hlookup]
      exact hleft
    · dsimp only
      rw [buildLookup, hlookup]
      exact hright
    · have hkept : ((s.store.claim slot).slot i).memory = (s.store.slot i).memory := by
        rw [FrameStore.claim]
        by_cases hi : i = slot
        · rw [hi, slot_setSlot_self]
        · rw [slot_setSlot_ne hi]
      rw [State.memory]
      dsimp only
      rw [hkept]
      exact hmemory i k
  | computed b hphase =>
    rw [segmentInv_iff]
    have hbuilder' : (requestPort .commit (commitWrite 0) (afterCompute b s)).builder =
        { s.builder with
          phase := .committing b (buildFrame (committedCal s) b.snapshot s.builder.workingCopy b.sequence) 0 } := by
      simp only [requestPort_frame]
      exact afterCompute_builder b s
    have hcache'' : (requestPort .commit (commitWrite 0) (afterCompute b s)).cache = s.cache := by simp
    have hmemory'' : (requestPort .commit (commitWrite 0) (afterCompute b s)).memory = s.memory := memory_of_slots (by simp)
    rw [hbuilder', hcache'', hmemory'']
    refine ⟨hcache, ⟨hcopy, hleft, hright, ?_⟩, hmemory⟩
    rintro f ⟨⟩
    exact ⟨inByte_buildFrame hcopy _ _ _ .left, inByte_buildFrame hcopy _ _ _ .right⟩
  | blockWritten b f n w lamp k hphase =>
    have hvalues : InByte (f.values lamp) := by
      obtain ⟨hl, hr⟩ := hframe f (by rw [hphase]; rfl)
      cases lamp <;> assumption
    rw [segmentInv_iff]
    refine ⟨by simpa [afterBlockWrite] using hcache, ?_, fun i j => ?_⟩
    · have hbuilder' : (requestPort .commit (commitWrite (n + 1)) (releasePort (afterBlockWrite b f n lamp k s))).builder =
          { s.builder with phase := .committing b f (n + 1) } := by simp [afterBlockWrite]
      rw [hbuilder']
      exact ⟨hcopy, hleft, hright, fun f' hf' => hframe f' (by rw [hphase]; exact hf')⟩
    · have hblock (x : Side) (m : FrameMemory) (hm : InByte (m.block x j)) :
          InByte ((m.writeBlock lamp k (blockValues (f.values lamp) k)).block x j) := by
        rw [block_writeBlock]
        split
        · exact hvalues.blockValues k
        · exact hm
      have hslot := (slot_withSlots (st := (afterBlockWrite b f n lamp k s).store)
        (st' := (requestPort .commit (commitWrite (n + 1)) (releasePort (afterBlockWrite b f n lamp k s))).store) (by simp) i).trans
          (slot_afterBlockWrite b f n lamp k s i)
      rw [State.memory, hslot]
      split
      · exact ⟨hblock .left _ (hmemory b.slot j).1, hblock .right _ (hmemory b.slot j).2⟩
      · exact hmemory i j
  | committed b f n w hphase =>
    have hvalues := hframe f (by rw [hphase]; rfl)
    rw [segmentInv_iff]
    refine ⟨by simpa [afterCommit_frame] using hcache, ?_, fun i k => ?_⟩
    · have hbuilder' : (releasePort (afterCommit b f s)).builder = { s.builder with phase := .idle, mirror := frameToMirror f } := by
        simp only [releasePort_frame]
        exact afterCommit_builder b f s
      rw [hbuilder']
      exact ⟨hcopy, hvalues.1, hvalues.2, by rintro f ⟨⟩⟩
    · have hslot := (slot_withSlots (releasePort_slots (afterCommit b f s)) i).trans
        (congrArg (·.slot i) (afterCommit_store b f s))
      have hblock (x : Side) : ((releasePort (afterCommit b f s)).memory i).block x k = (s.memory i).block x k := by
        rw [State.memory, hslot, slot_afterHeaderWrite]
        split
        next hi =>
          subst hi
          cases x <;> rfl
        next =>
          rw [loseNewest]
          split
          · rw [freeIfUnused_memory]
            rfl
          · rfl
      rw [hblock, hblock]
      exact hmemory i k

theorem OperatingChange.segmentInv {c : Instr} (h : OperatingChange s c u) (hs : SegmentInv s) : SegmentInv u := by
  obtain ⟨hcache, ⟨hcopy, hmirror⟩, hmemory⟩ := (segmentInv_iff s).mp hs
  have hreport {v : State} (hv : SegmentInv v) : SegmentInv (reportChange v) :=
    hv.of_same (by simp) (by simp) (memory_of_slots (by simp))
  have hconfig : SegmentInv (enterConfig s) := by
    refine (segmentInv_iff _).mpr ⟨by simpa [enterConfig] using hcache,
      builderBytes_limp (by simpa [enterConfig] using hcopy) (by simp [enterConfig]) (by simp [enterConfig]), hmemory.installed ?_⟩
    simp only [enterConfig, arbitrate_slots]
    rfl
  have hreset : SegmentInv (resetBlocks s) := by
    have hrestart : CacheBytes (restartCache s.cache) := hcache.of_values (fun _ => rfl) (.inr rfl)
    refine (segmentInv_iff _).mpr ⟨by simpa [resetBlocks] using hrestart,
      builderBytes_limp (by simp [resetBlocks]) (by simp [resetBlocks]) (by simp [resetBlocks]), hmemory.installed ?_⟩
    simp only [resetBlocks, arbitrate_slots]
    rfl
  cases h with
  | written _ p v => exact hs.of_same (by simp) (by simp) (memory_of_slots (by simp))
  | ran data =>
    have hran : SegmentInv (enterRun s) := (segmentInv_iff _).mpr ⟨hcache, ⟨by rintro _ ⟨⟩, hmirror⟩, hmemory⟩
    exact hreport hran
  | configured data => exact hreport hconfig
  | restarted data => exact hreset
  | restartedAnew data => exact hreport hreset

theorem Change.segmentInv {c : Instr} (h : Change c s u) (hs : SegmentInv s) : SegmentInv u := by
  cases h with
  | unchanged => exact hs
  | fault f => exact hs.of_same (by simp) (by simp) (memory_of_slots (by simp))
  | tracks h => exact hs.of_same (by simp [h.frame]) (by simp [h.frame]) (memory_of_slots (by simp [h.frame]))
  | driving h => exact hs.of_same (by simp [h.frame]) (by simp [h.frame]) (memory_of_slots (by simp [h.frame]))
  | cache h =>
    have hmemory : u.memory = s.memory := memory_of_slots (by simp [h.frame])
    have hbuilder : u.builder = s.builder := by simp [h.frame]
    rw [segmentInv_iff] at hs ⊢
    rw [hmemory, hbuilder]
    exact ⟨h.bytes hs.1, hs.2⟩
  | build h => exact h.segmentInv hs
  | link x h => exact hs.of_same (by simp [h.frame]) (by simp [h.frame]) h.newestKept.memory
  | diag h => exact hs.of_same (by simp [h.frame]) (by simp [h.frame]) (memory_of_slots (by simp [h.frame]))
  | operating h => exact h.segmentInv hs
  | port h => exact hs.of_same (by simp [h.frame]) (by simp [h.frame]) (memory_of_slots (by simp [h.frame]))

end Changes

theorem segmentInv_afterPowerOnReset (s : State) : SegmentInv (afterPowerOnReset s) := by
  refine (segmentInv_iff _).mpr ⟨cacheBytes_reset, builderBytes_limp (by rintro _ ⟨⟩) rfl rfl, fun i k => ?_⟩
  have hslot : (afterPowerOnReset s).store.slot i = if i = 0 then limpSlot else freeSlot (frameToMemory limpFrame) :=
    slot_resetStore i
  rw [State.memory, hslot]
  split <;> exact ⟨inByte_limpMemory _ k, inByte_limpMemory _ k⟩

end Sys2Proof.Machine

namespace Sys2Proof.Proofs

open Sys2Proof.Machine

/-- Settles O58: values enter as bytes, and every stage of the compute only lowers or averages them. -/
theorem segmentValuesKeptByEveryStep : Obligations.SegmentValuesKeptByEveryStep := by
  refine keptByStep_of (fun _ _ h => h) (fun s h => ?_) segmentInv_afterPowerOnReset fun _ _ _ h hu => hu.segmentInv h
  rw [segmentInv_iff] at h ⊢
  exact h

end Sys2Proof.Proofs
end

section
/-! SUPPORT. The ports' messages: what is received, in which order a port sends, and the bytes of what it sends; then the proofs of the
statements. -/

namespace Sys2Proof.Machine

/-! ## Received frames (R173, R175) -/

/-- A frame received on a port. -/
def receive (port : Port) (identifier : Nat) (ok : Bool) (s : State) (handle : State → Answer) : Answer :=
  match port with
  | .vPort => receiveV identifier ok s handle
  | .cPort => receiveC identifier ok s handle

theorem receive_off {port : Port} {s : State} (identifier : Nat) (ok : Bool) (handle : State → Answer)
    (h : s.portOff port = true) : receive port identifier ok s handle = .next s := by
  cases port with
  | vPort => exact receiveV_off identifier ok s handle h
  | cPort => exact receiveC_off identifier ok s handle h

theorem receive_wrong {port : Port} {s : State} (identifier : Nat) (handle : State → Answer)
    (h : s.portOff port = false) :
    receive port identifier false s handle = done (raiseFault (badMessage identifier 0) s) := by
  cases port with
  | vPort => exact receiveV_wrong identifier s handle h
  | cPort => exact receiveC_wrong identifier s handle h

theorem lengthFits_of_lengthIs {identifier n : Nat} {data : List Byte} (hrow : (identifier, [n]) ∈ tableLengths data)
    (h : lengthIs n data = true) : LengthFits identifier data :=
  ⟨[n], hrow, by rw [lengthIs, beq_iff_eq] at h; exact List.mem_singleton.mpr h⟩

theorem acceptRead_receives {data : List Byte} (s : State) (handle : DiagTarget → State → Answer) :
    ∃ (ok : Bool) (handle' : State → Answer),
      acceptRead data s handle = receive .cPort 0x277 ok s handle' ∧ (ok = true → LengthFits 0x277 data) :=
  ⟨lengthIs 4 data, _, rfl, lengthFits_of_lengthIs (by simp [tableLengths])⟩

/-- Every received frame passes its port's reception, and is handled only at a length of Table 10-1. -/
theorem exec_receives {c : Instr} {port : Port} {identifier : Nat} {data : List Byte}
    (h : receivedFrame c = some (port, identifier, data)) (s : State) :
    ∃ (ok : Bool) (handle : State → Answer),
      exec c s = receive port identifier ok s handle ∧ (ok = true → LengthFits identifier data) := by
  have hfits {n : Nat} (hrow : (identifier, [n]) ∈ tableLengths data) :
      lengthIs n data = true → LengthFits identifier data := lengthFits_of_lengthIs hrow
  cases c with
  | tracks data => cases h; exact ⟨_, _, rfl, (tracksLengthOk_iff _).mp⟩
  | trackEnd data => cases h; exact ⟨_, _, rfl, hfits (by simp [tableLengths])⟩
  | lane data => cases h; exact ⟨_, _, rfl, hfits (by simp [tableLengths])⟩
  | scene data => cases h; exact ⟨_, _, rfl, hfits (by simp [tableLengths])⟩
  | motion data => cases h; exact ⟨_, _, rfl, hfits (by simp [tableLengths])⟩
  | driver data => cases h; exact ⟨_, _, rfl, hfits (by simp [tableLengths])⟩
  | calSet data => cases h; exact ⟨_, _, rfl, hfits (by simp [tableLengths])⟩
  | calDone data => cases h; exact ⟨_, _, rfl, hfits (by simp [tableLengths])⟩
  | configEnter data => cases h; exact ⟨_, _, rfl, hfits (by simp [tableLengths])⟩
  | restart data => cases h; exact ⟨_, _, rfl, hfits (by simp [tableLengths])⟩
  | distData data => cases h; exact ⟨_, _, rfl, hfits (by simp [tableLengths])⟩
  | distDrop data => cases h; exact ⟨_, _, rfl, hfits (by simp [tableLengths])⟩
  | distClear data => cases h; exact ⟨_, _, rfl, hfits (by simp [tableLengths])⟩
  | distLock data => cases h; exact ⟨_, _, rfl, hfits (by simp [tableLengths])⟩
  | clearFaults data => cases h; exact ⟨_, _, rfl, hfits (by simp [tableLengths])⟩
  | clearNotices data => cases h; exact ⟨_, _, rfl, hfits (by simp [tableLengths])⟩
  | noticeMask data => cases h; exact ⟨_, _, rfl, hfits (by simp [tableLengths])⟩
  | diagReadTrackEntry data => cases h; rw [exec, execDiagReadTrackEntry]; exact acceptRead_receives s _
  | diagReadFrameBlock data => cases h; rw [exec, execDiagReadFrameBlock]; exact acceptRead_receives s _
  | diagReadCaptureRecord data => cases h; rw [exec, execDiagReadCaptureRecord]; exact acceptRead_receives s _
  | diagReadCacheSlot data => cases h; rw [exec, execDiagReadCacheSlot]; exact acceptRead_receives s _
  | diagReadLookupHistory data => cases h; rw [exec, execDiagReadLookupHistory]; exact acceptRead_receives s _
  | _ => cases h

/-! ## The order of sending (R174) -/

theorem beginVPort_stays {p : VPortState} (h : p.busOff = true ∨ p.sending.isSome = true ∨ p.litmap = none) :
    beginVPort p = p := by
  unfold beginVPort
  rcases h with h | h | h
  · simp [h]
  · simp [h]
  · simp [h]

theorem beginVPort_begins {p : VPortState} {m : LitMap} (hon : p.busOff = false) (hfree : p.sending = none)
    (hm : p.litmap = some m) :
    beginVPort p = { p with litmap := none, sending := some { identifier := 0x1C8, data := m.bytes } } := by
  unfold beginVPort
  rw [hon, hfree, hm]
  rfl

theorem beginCPort_stays {p : CPortState} (h : p.busOff = true ∨ p.sending.isSome = true) : beginCPort p = p := by
  unfold beginCPort
  rcases h with h | h <;> simp [h]

/-- The message that a port on the bus with a free transmitter begins. -/
theorem beginCPort_free {p : CPortState} (hon : p.busOff = false) (hfree : p.sending = none) :
    (∀ m, p.status = some m →
      beginCPort p = { p with status := none, sending := some { identifier := 0x280, data := m.bytes } }) ∧
    (∀ kinds, p.status = none → p.notice = some kinds →
      beginCPort p = { p with notice := none, sending := some { identifier := 0x281, data := [kinds] } }) ∧
    (∀ d, p.status = none → p.notice = none → p.distRequest = some d →
      beginCPort p = { p with distRequest := none, sending := some { identifier := 0x282, data := [putByte d] } }) ∧
    (∀ m, p.status = none → p.notice = none → p.distRequest = none → p.diagReply = some m →
      beginCPort p = { p with diagReply := none, sending := some { identifier := 0x283, data := m.bytes } }) ∧
    (p.status = none → p.notice = none → p.distRequest = none → p.diagReply = none → beginCPort p = p) := by
  unfold beginCPort
  rw [hon, hfree]
  refine ⟨?_, ?_, ?_, ?_, ?_⟩
  · intro m hstatus
    rw [hstatus]
    rfl
  · intro kinds hstatus hnotice
    rw [hstatus, hnotice]
    rfl
  · intro d hstatus hnotice hdist
    rw [hstatus, hnotice, hdist]
    rfl
  · intro m hstatus hnotice hdist hreply
    rw [hstatus, hnotice, hdist, hreply]
    rfl
  · intro hstatus hnotice hdist hreply
    rw [hstatus, hnotice, hdist, hreply]
    rfl

/-- A reply that stays queued, or none, leaves the reader as it is. -/
theorem reader_kept {s : State} (h : (beginCPort s.cPort).diagReply = s.cPort.diagReply) :
    (beginTransmissions s).reader = s.reader := by
  rw [beginTransmissions_reader, h]
  cases s.cPort.diagReply <;> rfl

theorem reader_freed {s : State} {m : DiagReply} (hreply : s.cPort.diagReply = some m)
    (h : (beginCPort s.cPort).diagReply = none) : (beginTransmissions s).reader = none := by
  rw [beginTransmissions_reader, h, hreply]
  rfl

/-! ## The bytes of what is sent (10.4) -/

theorem bitAt_flagByte {data : List Byte} {i : Nat} {marks : List Bool} (h : data.getD i 0 = flagByte marks) {b : Nat}
    (hb : b < 8) : bitAt data i b = marks.getD b false := by
  rw [bitAt, byteAt, h, BitVec.testBit_toNat, getLsbD_flagByte marks hb]

theorem byteAt_putByte {data : List Byte} {i n : Nat} (h : data.getD i 0 = putByte n) (hn : n ≤ 255) :
    byteAt data i = n := by
  rw [byteAt, h, toNat_putByte hn]

/-- A byte of eight marks shows the first in its bit 7. -/
theorem bitAt_marks {data : List Byte} {i : Nat} {marks : List Bool} (h : data.getD i 0 = putByte (marksToNat marks))
    (hlength : marks.length = 8) {b : Nat} (hb : b < 8) : bitAt data i (7 - b) = marks.getD b false := by
  have hflag : data.getD i 0 = flagByte marks.reverse := by rw [h, flagByte, List.reverse_reverse]
  rw [bitAt_flagByte hflag (by omega), List.getD_reverse _ (by omega)]
  congr 1
  omega

theorem getD_flatMap {α β : Type} {n : Nat} (f : α → List β) (hf : ∀ a, (f a).length = n) (d : β) (a : α) :
    ∀ (l : List α) (k j : Nat), k < l.length → j < n → (l.flatMap f).getD (n * k + j) d = (f (l.getD k a)).getD j d
  | [], k, j, hk, hj => absurd hk (by simp)
  | x :: l, 0, j, hk, hj => by
    rw [List.flatMap_cons, List.getD_append _ _ _ _ (by rw [hf]; omega)]
    simp
  | x :: l, k + 1, j, hk, hj => by
    have hlt : k < l.length := by simpa using hk
    have hpos : n * (k + 1) + j - n = n * k + j := by rw [Nat.mul_succ]; omega
    rw [List.flatMap_cons, List.getD_append_right _ _ _ _ (by rw [hf, Nat.mul_succ]; omega), hf, hpos,
      getD_flatMap f hf d a l k j hlt hj, List.getD_cons_succ]

theorem length_columnMapBytes (marks : List Bool) : (columnMapBytes marks).length = 5 := rfl

theorem columnMapBytes_getD (marks : List Bool) {j : Nat} (hj : j < 5) :
    (columnMapBytes marks).getD j 0 = putByte (marksToNat ((marks.drop (8 * j)).take 8)) := by
  match j, hj with
  | 0, _ | 1, _ | 2, _ | 3, _ | 4, _ => rfl

theorem litMap_layoutOk (m : LitMap) : m.LayoutOk := by
  intro hsequence hmaps hmarks
  refine ⟨?_, unsigned16_eq hsequence rfl rfl, ?_⟩
  · have hlength (l : List (List Bool)) : (l.flatMap columnMapBytes).length = 5 * l.length := by
      simp [List.length_flatMap, length_columnMapBytes, Nat.mul_comm]
    rw [LitMap.bytes, List.length_append, hlength, hmaps]
    rfl
  · intro k c hk hc
    have hrow : (m.maps.getD k []).length = 40 := by
      rw [List.getD_eq_getElem _ _ (by omega)]
      exact hmarks _ (List.getElem_mem _)
    have hbyte : m.bytes.getD (2 + 5 * k + c / 8) 0
        = putByte (marksToNat (((m.maps.getD k []).drop (8 * (c / 8))).take 8)) := by
      rw [LitMap.bytes, List.getD_append_right _ _ _ _ (by simp [put16]; omega)]
      have hpos : 2 + 5 * k + c / 8 - (put16 m.sequence).length = 5 * k + c / 8 := by simp [put16]; omega
      rw [hpos, getD_flatMap _ length_columnMapBytes _ [] _ _ _ (by omega) (by omega),
        columnMapBytes_getD _ (by omega)]
    have hc8 : c % 8 < 8 := Nat.mod_lt _ (by decide)
    rw [bitAt_marks hbyte (by rw [List.length_take, List.length_drop, hrow]; omega) hc8]
    rw [List.getD_eq_getElem?_getD, List.getElem?_take_of_lt hc8, List.getElem?_drop, Nat.div_add_mod,
      ← List.getD_eq_getElem?_getD]

theorem statusReport_layoutOk (r : StatusReport) : r.LayoutOk := by
  intro hsequence hbend hlevel
  have hflags : r.bytes.getD 0 0 = flagByte [r.operating == .run, r.atCommit, r.header.distHeld] := rfl
  have hbits : r.bytes.getD 13 0 = flagByte [r.upL, r.upR, r.supplyL, r.supplyR, r.header.yellowL, r.header.yellowR,
      r.header.clampedL, r.header.clampedR] := rfl
  have hmode (m : BeamMode) (i : Nat) (h : r.bytes.getD i 0 = putByte m.code) : modesByCode[byteAt r.bytes i]? = some m := by
    rw [byteAt, h]
    cases m <;> rfl
  have hreason (m : FallbackReason) (i : Nat) (h : r.bytes.getD i 0 = putByte m.code) : reasonsByCode[byteAt r.bytes i]? = some m := by
    rw [byteAt, h]
    cases m <;> rfl
  have hroad : byteAt r.bytes 7 = (putByte (r.roadClass.code + 4 * r.source.code)).toNat := rfl
  have hrequest : byteAt r.bytes 8 = (putByte r.request.code).toNat := rfl
  refine ⟨rfl, bitAt_flagByte hflags (by decide), bitAt_flagByte hflags (by decide), bitAt_flagByte hflags (by decide),
    unsigned16_eq hsequence rfl rfl, hmode _ 3 rfl, hreason _ 4 rfl, hmode _ 5 rfl, hreason _ 6 rfl, ?_, ?_, ?_,
    signed16_of_bytes hbend rfl rfl, signed16_of_bytes hlevel rfl rfl, fun i hi => bitAt_flagByte hbits hi, rfl,
    unsigned16_eq ?_ rfl rfl, rfl, rfl, rfl⟩
  · rw [hroad]
    cases r.roadClass <;> cases r.source <;> rfl
  · rw [hroad]
    cases r.roadClass <;> cases r.source <;> rfl
  · rw [hrequest]
    cases r.request with
    | steady m => cases m <;> rfl
    | flash => rfl
  · have := r.summary.isLt
    omega

theorem padTo_getD (n : Nat) (data : List Byte) (i : Nat) : (padTo n data).getD i 0 = data.getD i 0 := by
  rw [padTo]
  rcases Nat.lt_or_ge i data.length with hi | hi
  · rw [List.getD_append _ _ _ _ hi]
  · rw [List.getD_append_right _ _ _ _ hi, List.getD_eq_default _ _ hi]
    rcases Nat.lt_or_ge (i - data.length) (n - data.length) with hfill | hfill
    · rw [List.getD_replicate _ hfill]
    · rw [List.getD_eq_default _ _ (by simpa using hfill)]

theorem length_padTo {n : Nat} {data : List Byte} (h : data.length ≤ n) : (padTo n data).length = n := by
  rw [padTo, List.length_append, List.length_replicate]
  omega

/-- A reply's bytes: the read's four, then its data. -/
def replyBytes (p q u v : Byte) (d : DiagData) : List Byte := padTo 48 ([p, q, u, v] ++ d.bytes)

theorem trackReply_layoutOk (p q u v : Byte) (e : TrackEntry) :
    (DiagData.track e).LayoutOk (replyBytes p q u v (.track e)) := by
  intro hin hage
  obtain ⟨hid, hid', hlo, hlr, hhi, hphi, hphi', hdist, hconf⟩ := hin
  have hcls : [TrackClass.oncoming, .preceding, .sign, .otherLight][byteAt (replyBytes p q u v (.track e)) 6]?
      = some e.cls := by
    have hbyte : byteAt (replyBytes p q u v (.track e)) 6 = (putByte e.cls.code).toNat := rfl
    rw [hbyte]
    cases e.cls <;> rfl
  have hlength : (replyBytes p q u v (.track e)).length = 48 := by
    refine length_padTo ?_
    cases hlife : e.life with
    | live => simp [DiagData.bytes, trackBytes, trackTimesBytes, hlife, put16, putSigned16]
    | releasing remaining => simp [DiagData.bytes, trackBytes, trackTimesBytes, hlife, put16, putSigned16]
  have hbytes : replyBytes p q u v (.track e)
      = padTo 48 ([p, q, u, v, 0, putByte e.id, putByte e.cls.code] ++ putSigned16 e.thetaL ++ putSigned16 e.thetaR
          ++ putSigned16 e.phiT ++ put16 e.dist ++ [putByte e.conf] ++ trackTimesBytes e) := rfl
  have hafter {i : Nat} : (replyBytes p q u v (.track e)).getD (16 + i) 0 = (trackTimesBytes e).getD i 0 := by
    rw [hbytes, padTo_getD, List.getD_append_right _ _ _ _ (by simp [put16, putSigned16])]
    simp [put16, putSigned16]
  have htimes : unsigned16 (replyBytes p q u v (.track e)) 17 = e.age ∧
      match e.life with
      | .live => byteAt (replyBytes p q u v (.track e)) 16 = 0 ∧ unsigned16 (replyBytes p q u v (.track e)) 19 = 0xFFFF
      | .releasing remaining =>
        byteAt (replyBytes p q u v (.track e)) 16 = 1 ∧
          (remaining ≤ 65535 → unsigned16 (replyBytes p q u v (.track e)) 19 = remaining) := by
    have h0 := hafter (i := 0)
    have h1 := hafter (i := 1)
    have h2 := hafter (i := 2)
    have h3 := hafter (i := 3)
    have h4 := hafter (i := 4)
    unfold trackTimesBytes at h0 h1 h2 h3 h4
    cases hlife : e.life with
    | live =>
      rw [hlife] at h0 h1 h2 h3 h4
      exact ⟨unsigned16_eq hage h1 h2, congrArg BitVec.toNat h0, unsigned16_eq (by decide) h3 h4⟩
    | releasing remaining =>
      rw [hlife] at h0 h1 h2 h3 h4
      exact ⟨unsigned16_eq hage h1 h2, congrArg BitVec.toNat h0, fun h => unsigned16_eq h h3 h4⟩
  obtain ⟨hageOk, hlifeOk⟩ := htimes
  exact ⟨hlength, rfl, byteAt_putByte rfl (by omega), hcls, signed16_of_bytes ⟨by omega, by omega⟩ rfl rfl,
    signed16_of_bytes ⟨by omega, by omega⟩ rfl rfl, signed16_of_bytes ⟨by omega, by omega⟩ rfl rfl,
    unsigned16_eq (by omega) rfl rfl, byteAt_putByte rfl (by omega), hageOk, hlifeOk⟩

theorem toNat_putMark (b : Bool) : (putMark b).toNat = b.toNat := by cases b <;> rfl

theorem frameBlockReply_layoutOk (p q u v : Byte) (d : FrameBlockData) :
    (DiagData.frameBlock d).LayoutOk (replyBytes p q u v (.frameBlock d)) := by
  intro hsequence hlength hvalues
  have hholders : (replyBytes p q u v (.frameBlock d)).getD 6 0
      = flagByte [d.holders.leftApplied, d.holders.leftIncoming, d.holders.rightApplied, d.holders.rightIncoming] := rfl
  refine ⟨length_padTo (by simp [DiagData.bytes, frameBlockBytes, put16, hlength]), rfl, toNat_putMark _,
    bitAt_flagByte hholders (by decide), bitAt_flagByte hholders (by decide), bitAt_flagByte hholders (by decide),
    bitAt_flagByte hholders (by decide), unsigned16_eq hsequence rfl rfl, fun i hi => ?_⟩
  have hvalue : (replyBytes p q u v (.frameBlock d)).getD (9 + i) 0 = putByte (d.values.getD i 0) := by
    have hbytes : replyBytes p q u v (.frameBlock d)
        = padTo 48 ([p, q, u, v, 0, putMark d.newest, d.holders.byte, putByte (d.sequence / 256), putByte d.sequence]
            ++ d.values.map putByte) := rfl
    rw [hbytes, padTo_getD, List.getD_append_right _ _ _ _ (by simp)]
    simp [List.getD_eq_getElem?_getD, hlength, hi]
  refine byteAt_putByte hvalue ?_
  rw [List.getD_eq_getElem _ _ (by omega)]
  exact hvalues _ (List.getElem_mem _)

theorem cacheSlotReply_layoutOk (p q u v : Byte) (d : CacheSlotData) :
    (DiagData.cacheSlot d).LayoutOk (replyBytes p q u v (.cacheSlot d)) := by
  have htag : (replyBytes p q u v (.cacheSlot d)).getD 6 0 = putByte (d.tag.getD 0xFF) := rfl
  refine ⟨rfl, rfl, toNat_putMark _, fun hnone => ?_, fun tag h htagLe => ?_, toNat_putMark _, toNat_putMark _,
    fun h => unsigned16_eq h rfl rfl⟩
  · rw [hnone] at htag
    exact byteAt_putByte htag (by decide)
  · rw [Option.mem_def.mp h] at htag
    exact byteAt_putByte htag (show tag ≤ 255 by omega)

theorem historyReply_layoutOk (p q u v : Byte) (entries : List HistoryEntry) :
    (DiagData.history entries).LayoutOk (replyBytes p q u v (.history entries)) := by
  intro hcount
  have hbytes : replyBytes p q u v (.history entries)
      = padTo 48 ([p, q, u, v, 0, putByte entries.length]
          ++ entries.flatMap fun e => [putByte e.id, e.outcome.byte]) := rfl
  have hlength : (entries.flatMap fun e => [putByte e.id, e.outcome.byte]).length = 2 * entries.length := by
    simp [List.length_flatMap, Nat.mul_comm]
  refine ⟨?_, rfl, byteAt_putByte rfl (by omega), fun i e he => ?_⟩
  · rw [hbytes]
    exact length_padTo (by rw [List.length_append, hlength]; simp; omega)
  · obtain ⟨hi, hget⟩ := List.getElem?_eq_some_iff.mp he
    have hentry (j : Nat) (hj : j < 2) : (replyBytes p q u v (.history entries)).getD (6 + 2 * i + j) 0
        = [putByte e.id, e.outcome.byte].getD j 0 := by
      rw [hbytes, padTo_getD, List.getD_append_right _ _ _ _ (by simp; omega)]
      have hpos : 6 + 2 * i + j - [p, q, u, v, 0, putByte entries.length].length = 2 * i + j := by simp; omega
      rw [hpos, getD_flatMap (n := 2) _ (fun _ => rfl) 0 e _ _ _ hi hj, List.getD_eq_getElem _ _ hi, hget]
    refine ⟨fun h => byteAt_putByte (hentry 0 (by decide)) (by omega), ?_⟩
    have hbyte : byteAt (replyBytes p q u v (.history entries)) (7 + 2 * i) = e.outcome.byte.toNat := by
      have := hentry 1 (by decide)
      rw [byteAt, show 7 + 2 * i = 6 + 2 * i + 1 by omega, this]
      rfl
    rw [hbyte]
    cases e.outcome <;> rfl

theorem length_itemBytes (item : FaultItem) : (itemBytes item).length ≤ 3 := by
  cases item with
  | distCause id cause => cases cause <;> simp [itemBytes]
  | request identifier number => cases number <;> simp [itemBytes, put16]
  | _ => simp [itemBytes, put16]

theorem getD_append_append (a b c : List Byte) {i : Nat} (hi : i < b.length) :
    (a ++ b ++ c).getD (a.length + i) 0 = b.getD i 0 := by
  rw [List.append_assoc, List.getD_append_right _ _ _ _ (by omega), Nat.add_sub_cancel_left, List.getD_append _ _ _ _ hi]

/-- An item's bytes at byte 10 read as its fields. -/
theorem item_layoutOk {b : List Byte} (item : FaultItem)
    (h : ∀ i, i < 3 → b.getD (10 + i) 0 = (itemBytes item).getD i 0) : item.LayoutOk b := by
  have h0 := h 0 (by decide)
  have h1 := h 1 (by decide)
  have h2 := h 2 (by decide)
  cases item with
  | distCause id cause =>
    cases cause with
    | unanswered =>
      have hcause : byteAt b 11 = 0 := congrArg BitVec.toNat h1
      exact ⟨fun hid => byteAt_putByte h0 (by omega), by rw [hcause]; rfl⟩
    | noRoom =>
      have hcause : byteAt b 11 = 1 := congrArg BitVec.toNat h1
      exact ⟨fun hid => byteAt_putByte h0 (by omega), by rw [hcause]; rfl⟩
  | dist id => exact fun hid => byteAt_putByte h0 (by omega)
  | step s =>
    intro hs
    have hcode : byteAt b 10 = (putByte (stepCode s)).toNat := congrArg BitVec.toNat h0
    rw [hcode]
    cases s with
    | compare => exact absurd rfl hs
    | header => rfl
    | finish => rfl
    | block k => match k with | 0 | 1 | 2 | 3 | 4 => rfl
  | track id index => exact ⟨fun hid => byteAt_putByte h0 (by omega), fun hindex => byteAt_putByte h1 (by omega)⟩
  | message identifier index =>
    exact ⟨fun hid => unsigned16_eq hid h0 h1, fun hindex => byteAt_putByte h2 (by omega)⟩
  | request identifier number =>
    cases number with
    | none => exact ⟨fun hid => unsigned16_eq hid h0 h1, fun n hn => by cases hn⟩
    | some number => exact ⟨fun hid => unsigned16_eq hid h0 h1, fun n hn hle => by cases hn; exact byteAt_putByte h2 hle⟩
  | param q =>
    refine byteAt_putByte h0 ?_
    cases q <;> decide

theorem captureReply_layoutOk (p q u v : Byte) (c : CaptureRecord) :
    (DiagData.capture c).LayoutOk (replyBytes p q u v (.capture c)) := by
  have hkind : byteAt (replyBytes p q u v (.capture c)) 5 = c.report.kind.order :=
    byteAt_putByte rfl (by cases c.report.kind <;> decide)
  have hmarks : (replyBytes p q u v (.capture c)).getD 6 0
      = flagByte [c.report.sequence.isSome, c.report.link.isSome, c.report.item.isSome] := rfl
  have hseq {n : Nat} (hn : c.report.sequence.getD 0 = n) (hle : n ≤ 65535) :
      unsigned16 (replyBytes p q u v (.capture c)) 7 = n := by
    subst hn
    exact unsigned16_eq hle rfl rfl
  have hlink : byteAt (replyBytes p q u v (.capture c)) 9 = ((c.report.link.map Side.byte).getD 0).toNat := rfl
  have hitems : ((c.report.item.map itemBytes).getD []).length ≤ 3 := by
    cases c.report.item with
    | none => simp
    | some item => exact length_itemBytes item
  have hpadded : (padTo 3 ((c.report.item.map itemBytes).getD [])).length = 3 := length_padTo hitems
  have hbytes : replyBytes p q u v (.capture c)
      = padTo 48 ([p, q, u, v, 0, putByte c.report.kind.order,
            flagByte [c.report.sequence.isSome, c.report.link.isSome, c.report.item.isSome],
            putByte (c.report.sequence.getD 0 / 256), putByte (c.report.sequence.getD 0),
            (c.report.link.map Side.byte).getD 0] ++ padTo 3 ((c.report.item.map itemBytes).getD [])
          ++ [putMark c.further]) := rfl
  have hitem (i : Nat) (hi : i < 3) : (replyBytes p q u v (.capture c)).getD (10 + i) 0
      = ((c.report.item.map itemBytes).getD []).getD i 0 := by
    rw [hbytes, padTo_getD]
    exact (getD_append_append _ _ _ (hpadded.symm ▸ hi)).trans (padTo_getD 3 _ i)
  have hfurther : byteAt (replyBytes p q u v (.capture c)) 13 = c.further.toNat := by
    rw [← toNat_putMark, byteAt, hbytes, padTo_getD, List.getD_append_right _ _ _ _ (by simp [hpadded])]
    simp [hpadded]
  refine ⟨?_, rfl, hkind, bitAt_flagByte hmarks (by decide), bitAt_flagByte hmarks (by decide),
    bitAt_flagByte hmarks (by decide), fun n hn => ?_, fun x hx => ?_, fun item hin => ?_, hfurther⟩
  · rw [hbytes]
    exact length_padTo (by simp [hpadded])
  · exact hseq (by rw [Option.mem_def.mp hn]; rfl)
  · rw [hlink, Option.mem_def.mp hx]
    cases x <;> rfl
  · rw [Option.mem_def.mp hin] at hitem
    exact item_layoutOk item hitem

theorem diagReply_layoutOk (r : DiagReply) : r.LayoutOk := by
  intro hlength
  obtain ⟨read, d⟩ := r
  match read, hlength with
  | [p, q, u, v], _ =>
    refine ⟨rfl, ?_⟩
    cases d with
    | empty => exact ⟨rfl, rfl⟩
    | track e => exact trackReply_layoutOk p q u v e
    | frameBlock d => exact frameBlockReply_layoutOk p q u v d
    | capture c => exact captureReply_layoutOk p q u v c
    | cacheSlot d => exact cacheSlotReply_layoutOk p q u v d
    | history entries => exact historyReply_layoutOk p q u v entries

end Sys2Proof.Machine

namespace Sys2Proof.Proofs

open Sys2Proof.Machine

/-- Settles O9: a received frame passes its port's reception, which lets only a length of Table 10-1 through. -/
theorem wrongLengthAndBusOffAreNotAccepted : Obligations.WrongLengthAndBusOffAreNotAccepted := by
  intro c port identifier data s hc
  obtain ⟨ok, handle, hexec, hfits⟩ := exec_receives hc s
  refine ⟨fun hoff => hexec.trans (receive_off identifier ok handle hoff), fun hon hwrong => ?_⟩
  have hok : ok = false := Bool.eq_false_iff.mpr fun htrue => hwrong (hfits htrue)
  rw [hok] at hexec
  exact hexec.trans (receive_wrong identifier handle hon)

/-- Settles O10: the order from the port's own choice among what it has queued, the layouts field by field. -/
theorem transmitterBeginsLowestIdentifier : Obligations.TransmitterBeginsLowestIdentifier := by
  refine ⟨litMap_layoutOk, statusReport_layoutOk, diagReply_layoutOk, fun s => ?_⟩
  refine ⟨rfl, fun h => beginVPort_stays h, fun hon hfree m hm => beginVPort_begins hon hfree hm, fun h => ?_,
    fun hon hfree => ?_, fun h => if_pos h, fun h => if_pos h⟩
  · have hstays := beginCPort_stays h
    exact ⟨hstays, reader_kept (congrArg CPortState.diagReply hstays)⟩
  · obtain ⟨hstatus, hnotice, hdist, hreply, hnothing⟩ := beginCPort_free hon hfree
    refine ⟨fun m hm => ?_, fun h1 kinds hk => ?_, fun h1 h2 d hd => ?_, fun h1 h2 h3 m hm => ?_, fun h1 h2 h3 h4 => ?_⟩
    · exact ⟨hstatus m hm, reader_kept (hstatus m hm ▸ rfl)⟩
    · exact ⟨hnotice kinds h1 hk, reader_kept (hnotice kinds h1 hk ▸ rfl)⟩
    · exact ⟨hdist d h1 h2 hd, reader_kept (hdist d h1 h2 hd ▸ rfl)⟩
    · exact ⟨hreply m h1 h2 h3 hm, reader_freed hm (congrArg CPortState.diagReply (hreply m h1 h2 h3 hm))⟩
    · exact ⟨hnothing h1 h2 h3 h4, reader_kept (congrArg CPortState.diagReply (hnothing h1 h2 h3 h4))⟩

/-- Settles O11: each event is its own port's, carried out where it changes the port. -/
theorem busOffLosesTheOutboundQueue : Obligations.BusOffLosesTheOutboundQueue := by
  intro s
  refine ⟨fun h => ?_, fun h => ?_, fun h => if_pos h, fun h => if_pos h⟩
  · exact if_neg (by rw [h]; decide)
  · exact if_neg (by rw [h]; decide)

end Sys2Proof.Proofs

end

section
/-! SUPPORT. One millisecond of every time base, fault and notice taken by the diagnostic unit; then the proofs of the statements. -/

namespace Sys2Proof.Machine

/-! ## One millisecond (log 2) -/

/-- A running timer one millisecond on, where that leaves it below its limit. -/
def nextTime (limit n : Nat) : Nat := if n + 1 < limit then n + 1 else n

theorem ite_limit (limit n : Nat) : (if limit ≤ n + 1 then n else n + 1) = nextTime limit n := by
  rw [nextTime]
  split <;> split <;> omega

theorem advance_eq (limit : Nat) (t : Option Nat) : advance limit t = t.map (nextTime limit) := by
  rw [advance]
  exact congrArg (t.map ·) (funext fun n => ite_limit limit n)

/-- An entry one millisecond on. -/
def agedTrack (expiry : Nat) (e : TrackEntry) : TrackEntry :=
  { e with
    age := nextTime expiry e.age
    life :=
      match e.life with
      | .live => .live
      | .releasing remaining => .releasing (if 1 < remaining then remaining - 1 else remaining) }

theorem ageTrack_eq (expiry : Nat) : ageTrack expiry = agedTrack expiry := by
  funext e
  obtain ⟨id, cls, thetaL, thetaR, phiT, dist, conf, life, age⟩ := e
  rw [ageTrack, agedTrack, ite_limit]
  cases life with
  | live => rfl
  | releasing remaining =>
    have hremaining : (if remaining ≤ 1 then remaining else remaining - 1)
        = if 1 < remaining then remaining - 1 else remaining := by split <;> split <;> omega
    simp only [hremaining]

theorem ageTracks_eq (s : State) :
    ageTracks s = if s.operating = .run then s.tracks.map (agedTrack ((activeCal s).nat .trackExpiry)) else s.tracks := by
  unfold ageTracks
  cases s.operating with
  | config => rfl
  | run => rw [ageTrack_eq]; rfl

/-- A flash one millisecond on. -/
def agedFlash (limit : Nat) (f : FlashState) : FlashState :=
  match f with
  | .active n => .active (nextTime limit n)
  | flash => flash

theorem advanceFlash_eq (limit : Nat) (f : FlashState) : advanceFlash limit f = agedFlash limit f := by
  cases f with
  | active n => exact congrArg FlashState.active (ite_limit limit n)
  | idle => rfl
  | spent => rfl

theorem advanceRequest_eq : advanceRequest = fun r => { r with timer := nextTime 250 r.timer } := by
  funext r
  rw [advanceRequest, ite_limit]
  rfl

/-- A link's timers one millisecond on. -/
def agedLink (l : LampLink) : LampLink :=
  { l with
    statusTimer := l.statusTimer.map (nextTime 300)
    transfer := l.transfer.map fun t => { t with replyTimer := t.replyTimer.map (nextTime 5) } }

theorem advanceLink_eq (l : LampLink) : advanceLink l = agedLink l := by
  simp only [advanceLink, advance_eq]
  rfl

/-- Everything but the queue, one millisecond on. -/
theorem tick_eq (s : State) :
    tick s =
      { s with
        pending := (tick s).pending
        tracks := if s.operating = .run then s.tracks.map (agedTrack ((activeCal s).nat .trackExpiry)) else s.tracks
        motion :=
          { s.motion with
            timer := s.motion.timer.map (nextTime (if s.motion.presence = .fresh then 100 else 500))
            lane := s.motion.lane.map fun l => { l with age := l.age + 1 } }
        selector := { s.selector with flash := agedFlash ((activeCal s).nat .flashMax) s.selector.flash }
        vision := { s.vision with timer := s.vision.timer.map (nextTime 200) }
        cache := { s.cache with request := s.cache.request.map fun r => { r with timer := nextTime 250 r.timer } }
        builder := { s.builder with timer := s.builder.timer.map (nextTime ((committedCal s).nat .buildPeriod)) }
        linkL := agedLink s.linkL
        linkR := agedLink s.linkR } := by
  unfold tick
  simp only [ageTracks_eq, advance_eq, advanceFlash_eq, advanceRequest_eq, advanceLink_eq]
  rfl

/-! ## The expiries of a millisecond -/

theorem mem_trackDue {expiry : Nat} {e : TrackEntry} {c : Instr} :
    c ∈ trackDue expiry e ↔
      (c = .releaseTimerExpiry e.id ∧ ∃ remaining, e.life = .releasing remaining ∧ remaining ≤ 1) ∨
        (c = .trackAgeExpiry e.id ∧ expiry ≤ e.age + 1) := by
  have hrelease : c ∈ releaseDue e ↔
      c = .releaseTimerExpiry e.id ∧ ∃ remaining, e.life = .releasing remaining ∧ remaining ≤ 1 := by
    unfold releaseDue
    cases e.life with
    | live => simp
    | releasing remaining => by_cases h : remaining ≤ 1 <;> simp [h]
  rw [trackDue, List.mem_append, hrelease]
  by_cases h : expiry ≤ e.age + 1 <;> simp [h]

theorem mem_tracksDue {s : State} {c : Instr} :
    c ∈ tracksDue s ↔ s.operating = .run ∧ ∃ e ∈ s.tracks, c ∈ trackDue ((activeCal s).nat .trackExpiry) e := by
  unfold tracksDue
  cases s.operating with
  | config => simp
  | run => simp [List.mem_flatMap]

theorem mem_presenceDue {u : MotionUnit} {c : Instr} :
    c ∈ due (presenceLimit u) u.timer (presenceCommand u) ↔
      (c = .presenceStale ∧ u.presence = .fresh ∧ ∃ n ∈ u.timer, 100 ≤ n + 1) ∨
        (c = .presenceLost ∧ ¬u.presence = .fresh ∧ ∃ n ∈ u.timer, 500 ≤ n + 1) := by
  rw [mem_due, presenceLimit, presenceCommand]
  by_cases h : u.presence = .fresh
  · simp [h, Config.staleLimit]
  · simp [h, Config.lostLimit]

theorem mem_flashDue {limit : Nat} {f : FlashState} {c : Instr} :
    c ∈ due limit f.timer .flashExpiry ↔ c = .flashExpiry ∧ ∃ n, f = .active n ∧ limit ≤ n + 1 := by
  rw [mem_due]
  cases f <;> simp [FlashState.timer]

theorem mem_linkDue {x : Side} {l : LampLink} {c : Instr} :
    c ∈ linkDue x l ↔
      (c = .statusTimerExpiry x ∧ ∃ n ∈ l.statusTimer, 300 ≤ n + 1) ∨
        (c = .replyTimeout x ∧ ∃ t ∈ l.transfer, ∃ n ∈ t.replyTimer, 5 ≤ n + 1) := by
  rw [linkDue, List.mem_append, mem_due, mem_due, LampLink.replyTimer]
  cases l.transfer with
  | none => simp [Config.statusLimit]
  | some t => simp [Config.statusLimit, Config.replyLimit]

theorem mem_requestDue {r : Option DistRequest} {c : Instr} :
    c ∈ due Config.requestLimit (r.map (·.timer)) .requestTimerExpiry ↔
      c = .requestTimerExpiry ∧ ∃ q ∈ r, 250 ≤ q.timer + 1 := by
  rw [mem_due]
  cases r <;> simp [Config.requestLimit]

theorem exists_side {p : Side → Prop} : (∃ x, p x) ↔ p .left ∨ p .right :=
  ⟨fun ⟨x, hx⟩ => match x, hx with
    | .left, hx => .inl hx
    | .right, hx => .inr hx,
   fun h => h.elim (⟨.left, ·⟩) (⟨.right, ·⟩)⟩

/-- The expiries of both links. -/
def linksDue (s : State) : List Instr := linkDue .left s.linkL ++ linkDue .right s.linkR

theorem mem_linksDue {s : State} {c : Instr} :
    c ∈ linksDue s ↔
      (∃ x : Side, c = .statusTimerExpiry x ∧ ∃ n ∈ (s.link x).statusTimer, 300 ≤ n + 1) ∨
        (∃ x : Side, c = .replyTimeout x ∧ ∃ t ∈ (s.link x).transfer, ∃ n ∈ t.replyTimer, 5 ≤ n + 1) := by
  rw [linksDue, List.mem_append, mem_linkDue, mem_linkDue, exists_side, exists_side]
  exact or_or_or_comm

theorem dueCommands_eq (s : State) :
    dueCommands s =
      tracksDue s ++ due (presenceLimit s.motion) s.motion.timer (presenceCommand s.motion)
        ++ due ((activeCal s).nat .flashMax) s.selector.flash.timer .flashExpiry
        ++ due Config.visionLimit s.vision.timer .visionLoss ++ linksDue s
        ++ due Config.requestLimit (s.cache.request.map (·.timer)) .requestTimerExpiry
        ++ due ((committedCal s).nat .buildPeriod) s.builder.timer .buildTimerExpiry := by
  simp only [dueCommands, linksDue, List.append_assoc]

/-- The queue after a millisecond: the expiries that are due and no others. -/
theorem mem_dueCommands (s : State) (c : Instr) :
    c ∈ dueCommands s ↔
      (s.operating = .run ∧ ∃ e ∈ s.tracks,
        (c = .releaseTimerExpiry e.id ∧ ∃ remaining, e.life = .releasing remaining ∧ remaining ≤ 1) ∨
          (c = .trackAgeExpiry e.id ∧ (activeCal s).nat .trackExpiry ≤ e.age + 1)) ∨
      (c = .presenceStale ∧ s.motion.presence = .fresh ∧ ∃ n ∈ s.motion.timer, 100 ≤ n + 1) ∨
      (c = .presenceLost ∧ ¬s.motion.presence = .fresh ∧ ∃ n ∈ s.motion.timer, 500 ≤ n + 1) ∨
      (c = .flashExpiry ∧ ∃ n, s.selector.flash = .active n ∧ (activeCal s).nat .flashMax ≤ n + 1) ∨
      (c = .visionLoss ∧ ∃ n ∈ s.vision.timer, 200 ≤ n + 1) ∨
      (∃ x : Side, c = .statusTimerExpiry x ∧ ∃ n ∈ (s.link x).statusTimer, 300 ≤ n + 1) ∨
      (∃ x : Side, c = .replyTimeout x ∧ ∃ t ∈ (s.link x).transfer, ∃ n ∈ t.replyTimer, 5 ≤ n + 1) ∨
      (c = .requestTimerExpiry ∧ ∃ r ∈ s.cache.request, 250 ≤ r.timer + 1) ∨
      (c = .buildTimerExpiry ∧ ∃ n ∈ s.builder.timer, (committedCal s).nat .buildPeriod ≤ n + 1) := by
  have hvision : c ∈ due Config.visionLimit s.vision.timer .visionLoss ↔
      c = .visionLoss ∧ ∃ n ∈ s.vision.timer, 200 ≤ n + 1 := mem_due _ _ _ _
  have hbuild : c ∈ due ((committedCal s).nat .buildPeriod) s.builder.timer .buildTimerExpiry ↔
      c = .buildTimerExpiry ∧ ∃ n ∈ s.builder.timer, (committedCal s).nat .buildPeriod ≤ n + 1 := mem_due _ _ _ _
  simp only [dueCommands_eq, List.mem_append, mem_tracksDue, mem_trackDue, mem_presenceDue, mem_flashDue, hvision,
    mem_linksDue, mem_requestDue, hbuild, or_assoc]

end Sys2Proof.Machine

namespace Sys2Proof.Proofs

open Sys2Proof.Machine

/-- Settles O2: on an empty queue a step is a tick, whose fields and queue are given one by one. -/
theorem emptyQueuePassesOneMillisecond : Obligations.EmptyQueuePassesOneMillisecond :=
  fun s hpending => ⟨tick s, step_nil hpending, tick_eq s, mem_dueCommands s⟩

/-- Settles O46: a notice by whether its kind is pending, a fault by whether the record is filled. -/
theorem faultJoinsSummaryAndCapture : Obligations.FaultJoinsSummaryAndCapture := by
  refine ⟨by decide, by decide, fun k s => ?_, fun f s => ?_⟩
  · rw [raiseNotice_eq]
    change _ = if s.diag.isPending k = true then _ else _
    by_cases hpending : s.diag.isPending k = true
    · rw [if_pos hpending, hpending, NoticeKind.or_bit_of_mem k _ hpending]
      rfl
    · rw [if_neg hpending, Bool.eq_false_iff.mpr hpending]
      rfl
  · cases hcapture : s.diag.capture with
    | some c =>
      rw [raiseFault_filled f s c hcapture]
      refine ⟨rfl, rfl, rfl, fun c' hc' => ?_, fun h => (by cases h)⟩
      cases hc'
      exact ⟨rfl, rfl, rfl⟩
    | none =>
      rw [raiseFault_empty f s hcapture, raiseNotice_eq]
      refine ⟨rfl, rfl, rfl, fun c hc => (by cases hc), fun _ => ⟨rfl, rfl, ?_⟩⟩
      change (if (s.diag.notices.getLsbD 2 || s.diag.mask.getLsbD 2) = true then _ else _) = _
      simp only [Bool.or_eq_true]

end Sys2Proof.Proofs

end

section
/-! SUPPORT. The ports and the diagnostic reader through every step (R132, R134, R174, R175, R178), and every invariant after a reset;
then the proofs of the statements. -/

namespace Sys2Proof.Machine

/-! ## What reports and queued messages leave of the C-port -/

/-- What of the C-port and the reader no report and no message but a reply touches. -/
def State.replyView (s : State) := (s.cPort.busOff, s.cPort.sending, s.cPort.diagReply, s.reader)

/-- The transmitter of the C-port. -/
def State.cLine (s : State) := (s.cPort.busOff, s.cPort.sending)

theorem cLine_of_replyView {s u : State} (h : u.replyView = s.replyView) : u.cLine = s.cLine := by
  simp only [State.replyView, Prod.mk.injEq] at h
  obtain ⟨hoff, hsending, -, -⟩ := h
  rw [State.cLine, State.cLine, hoff, hsending]

section ReplyView

variable (s : State)

theorem replyView_raiseNotice (k : NoticeKind) : (raiseNotice k s).replyView = s.replyView := by
  rw [raiseNotice_eq]
  dsimp only [State.replyView]
  split <;> rfl

theorem replyView_raiseFault (f : FaultReport) : (raiseFault f s).replyView = s.replyView := by
  cases hcapture : s.diag.capture with
  | none =>
    rw [raiseFault_empty f s hcapture]
    exact replyView_raiseNotice _ _
  | some c =>
    rw [raiseFault_filled f s c hcapture]
    rfl

theorem replyView_takeRecords (records : List (Nat × TrackRecord)) : (takeRecords records s).replyView = s.replyView := by
  induction records generalizing s with
  | nil => rfl
  | cons r rest ih =>
    refine (ih (takeRecord r.1 r.2 s)).trans ?_
    unfold takeRecord
    split
    · exact replyView_raiseFault s _
    · split
      · rfl
      · exact replyView_raiseFault s _

theorem replyView_lookupMiss (d : Nat) : (lookupMiss d s).replyView = s.replyView := by
  refine (replyView_raiseNotice _ _).trans ?_
  show (missRequest d s).replyView = s.replyView
  unfold missRequest
  split
  · rfl
  · split
    · split
      · rfl
      · rfl
    · rfl

theorem replyView_lookup (d sequence : Nat) : (lookup d sequence s).1.replyView = s.replyView := by
  unfold lookup
  split
  · exact replyView_lookupMiss s d
  · split
    · rfl
    · exact (replyView_lookupMiss _ d).trans (replyView_raiseFault _ _)

theorem replyView_startBuild (slot : Fin 6) : (startBuild slot s).replyView = s.replyView := by
  have hlookup (mode : BeamMode) (sequence : Nat) (v : State) : (lookupFor mode sequence v).1.replyView = v.replyView := by
    unfold lookupFor
    split
    · rfl
    · exact replyView_lookup v _ _
  exact hlookup _ _ { s with store := s.store.claim slot }

theorem replyView_raiseBand (sequence : Nat) (lamp : Side) (band : BudgetBand) :
    (raiseBand sequence lamp band s).replyView = s.replyView := by
  cases band with
  | green => rfl
  | yellow => exact replyView_raiseNotice s _
  | red => exact replyView_raiseFault s _

theorem replyView_raiseBands (b : Build) : (raiseBands b s).replyView = s.replyView := by
  simp only [raiseBands, replyView_raiseBand]

theorem replyView_afterCompute (b : Build) : (afterCompute b s).replyView = s.replyView := by
  have hview : (afterCompute b s).replyView = (raiseBands b s).replyView := by
    unfold afterCompute
    generalize raiseBands b s = v
    rfl
  exact hview.trans (replyView_raiseBands s b)

theorem replyView_afterCommit (b : Build) (f : Frame) : (afterCommit b f s).replyView = s.replyView := by
  show (commitNotices f.header b.snapshot.previous s).replyView = s.replyView
  have hmode : (if f.header.mode = b.snapshot.previous.mode then s else raiseNotice .modeChanged s).replyView = s.replyView := by
    split
    · rfl
    · exact replyView_raiseNotice s _
  unfold commitNotices
  dsimp only
  split
  · exact hmode
  · exact (replyView_raiseNotice _ _).trans hmode

theorem replyView_placeFill (d : Nat) (values : List Nat) : (placeFill d values s).replyView = s.replyView := by
  have hwritten (v : State) : (fillWritten d v).replyView = v.replyView := by
    unfold fillWritten withdrawDistRequest
    dsimp only
    split
    · split <;> rfl
    · rfl
  unfold placeFill
  split
  · exact hwritten _
  · split
    · exact replyView_raiseFault _ _
    · exact hwritten _
    · exact hwritten _

theorem replyView_reportChange : (reportChange s).replyView = s.replyView := replyView_raiseNotice s _

end ReplyView

theorem TracksChange.replyView {s u : State} (h : TracksChange s u) : u.replyView = s.replyView := by
  cases h with
  | refreshed | ended | removed => rfl
  | refused f => exact replyView_raiseFault _ f
  | taken data => exact replyView_takeRecords _ _

theorem DrivingChange.replyView {s u : State} (h : DrivingChange s u) : u.replyView = s.replyView := by
  cases h with
  | lane | scene | accepted | stale | driver | flashSpent => rfl
  | repeated =>
    unfold repeatMotion
    dsimp only
    split
    · exact replyView_raiseFault _ _
    · rfl
  | lost => exact replyView_raiseFault _ _
  | visionLost => exact replyView_raiseFault _ _

theorem CacheChange.replyView {s u : State} (h : CacheChange s u) : u.replyView = s.replyView := by
  cases h with
  | opened | dropped | cleared | locked | sentAgain => rfl
  | placed f data => exact replyView_placeFill _ _ _
  | givenUp r => exact replyView_raiseFault _ _

/-! ## The transmitters (R174) -/

theorem sendOk_beginVPort {p : VPortState} (h : p.busOff = true → p.sending = none) : (beginVPort p).SendOk := by
  by_cases hstays : p.busOff = true ∨ p.sending.isSome = true ∨ p.litmap = none
  · rw [beginVPort_stays hstays]
    refine ⟨h, fun hon hfree => ?_⟩
    rcases hstays with hoff | hsending | hnone
    · rw [hon] at hoff
      cases hoff
    · rw [hfree] at hsending
      cases hsending
    · exact hnone
  · obtain ⟨hoff, hsending, hlitmap⟩ : p.busOff = false ∧ p.sending = none ∧ ∃ m, p.litmap = some m := by
      simpa [Option.ne_none_iff_exists', not_or] using hstays
    obtain ⟨m, hm⟩ := hlitmap
    rw [beginVPort_begins hoff hsending hm]
    exact ⟨fun hbus => absurd (hoff.symm.trans hbus) (by decide), fun _ hnone => by cases hnone⟩

theorem sendOk_beginCPort {p : CPortState} (h : p.busOff = true → p.sending = none) : (beginCPort p).SendOk := by
  by_cases hstays : p.busOff = true ∨ p.sending.isSome = true
  · rw [beginCPort_stays hstays]
    refine ⟨h, fun hon hfree => ?_⟩
    rcases hstays with hoff | hsending
    · rw [hon] at hoff
      cases hoff
    · rw [hfree] at hsending
      cases hsending
  · obtain ⟨hoff, hsending⟩ : p.busOff = false ∧ p.sending = none := by simpa [not_or] using hstays
    have hbegun {q : CPortState} (hq : q.busOff = p.busOff) (hs : q.sending.isSome = true) : q.SendOk :=
      ⟨fun hbus => absurd ((hq.trans hoff).symm.trans hbus) (by decide), fun _ hnone => by rw [hnone] at hs; cases hs⟩
    obtain ⟨hstatus, hnotice, hdist, hreply, hnothing⟩ := beginCPort_free hoff hsending
    cases h1 : p.status with
    | some m =>
      rw [hstatus m h1]
      exact hbegun rfl rfl
    | none =>
      cases h2 : p.notice with
      | some kinds =>
        rw [hnotice kinds h1 h2]
        exact hbegun rfl rfl
      | none =>
        cases h3 : p.distRequest with
        | some d =>
          rw [hdist d h1 h2 h3]
          exact hbegun rfl rfl
        | none =>
          cases h4 : p.diagReply with
          | some m =>
            rw [hreply m h1 h2 h3 h4]
            exact hbegun rfl rfl
          | none =>
            rw [hnothing h1 h2 h3 h4]
            exact ⟨h, fun _ _ => ⟨h1, h2, h3, h4⟩⟩

theorem beginCPort_diagReply (p : CPortState) : (beginCPort p).diagReply = p.diagReply ∨ (beginCPort p).diagReply = none := by
  unfold beginCPort
  split
  · exact .inl rfl
  · split
    · exact .inl rfl
    · exact .inl rfl
    · exact .inl rfl
    · exact .inr rfl
    · exact .inl rfl

/-! ## The diagnostic reader (R134, R178) -/

/-- A read stands in at most one place, its reply queued, its request waiting or its access under way, and the reader is busy exactly
while it stands in one. -/
def ReadAt (reader : Option (List Byte)) (reply : Option DiagReply) (waits : Option PortAccess) (access : Option PortUse) : Prop :=
  (reader.isSome = true ↔ reply.isSome = true ∨ waits.isSome = true ∨ access.isSome = true) ∧
    ¬(reply.isSome = true ∧ waits.isSome = true) ∧ ¬(reply.isSome = true ∧ access.isSome = true) ∧
    ¬(waits.isSome = true ∧ access.isSome = true)

theorem readerInv_iff (s : State) :
    ReaderInv s ↔
      ReadAt s.reader s.cPort.diagReply (s.store.waiting .diag) (s.store.accessOf .diag) ∧ DiagWaitsAlone s.store := by
  constructor
  · rintro ⟨hbusy, hreply, hreplyAccess, haccess, hcommit, hlinkL, hlinkR⟩
    refine ⟨⟨hbusy, hreply, hreplyAccess, haccess⟩, fun r hr => ?_⟩
    cases r with
    | commit => exact hcommit
    | linkL => exact hlinkL
    | linkR => exact hlinkR
    | diag => exact absurd rfl hr
  · rintro ⟨⟨hbusy, hreply, hreplyAccess, haccess⟩, halone⟩
    exact ⟨hbusy, hreply, hreplyAccess, haccess, halone .commit (by decide), halone .linkL (by decide), halone .linkR (by decide)⟩

section ReadAt

variable {reader : Option (List Byte)} {reply : Option DiagReply} {waits : Option PortAccess} {access : Option PortUse}

theorem readAt_free : ReadAt none none none none := by simp [ReadAt]

theorem readAt_replied (read : List Byte) (m : DiagReply) : ReadAt (some read) (some m) none none := by simp [ReadAt]

theorem readAt_waiting (read : List Byte) (a : PortAccess) : ReadAt (some read) none (some a) none := by simp [ReadAt]

theorem readAt_accessing (read : List Byte) (w : PortUse) : ReadAt (some read) none none (some w) := by simp [ReadAt]

theorem ReadAt.of_reader_free (h : ReadAt none reply waits access) : reply = none ∧ waits = none ∧ access = none := by
  obtain ⟨hbusy, -⟩ := h
  simpa [not_or] using hbusy

theorem ReadAt.of_replied {m : DiagReply} (h : ReadAt reader (some m) waits access) : waits = none ∧ access = none := by
  obtain ⟨-, hwaits, haccess, -⟩ := h
  simpa using And.intro hwaits haccess

theorem ReadAt.of_waiting {a : PortAccess} (h : ReadAt reader reply (some a) access) :
    (∃ read, reader = some read) ∧ reply = none ∧ access = none := by
  obtain ⟨hbusy, hreply, -, haccess⟩ := h
  exact ⟨Option.isSome_iff_exists.mp (hbusy.mpr (.inr (.inl rfl))), by simpa using hreply, by simpa using haccess⟩

theorem ReadAt.of_accessing {w : PortUse} (h : ReadAt reader reply waits (some w)) :
    (∃ read, reader = some read) ∧ reply = none ∧ waits = none := by
  obtain ⟨hbusy, -, hreply, hwaits⟩ := h
  exact ⟨Option.isSome_iff_exists.mp (hbusy.mpr (.inr (.inr rfl))), by simpa using hreply, by simpa using hwaits⟩

end ReadAt

theorem grant_diagReply_of_other {a : PortAccess} (ha : a.isDiag = false) (r : Requester) (s : State) :
    (grant r a s).cPort = s.cPort := by
  rw [grant_access r a s ((isDiag_eq_false_iff a).mp ha)]

/-- A grant at an idle port makes the access or, for a read answered at once, queues its reply. -/
theorem grant_access_or_reply (r : Requester) (a : PortAccess) {s : State} (hbusy : s.store.busy = none) :
    (∃ w, (grant r a s).store.busy = some w ∧ w.requester = r ∧ (grant r a s).cPort.diagReply = s.cPort.diagReply) ∨
      (grant r a s).store.busy = none ∧ (grant r a s).cPort.diagReply.isSome = true := by
  cases a with
  | diagRead i x k =>
    by_cases hstored : (s.store.slot i).state = .stored
    · rw [grant_stored r x k hstored]
      exact .inl ⟨_, rfl, rfl, rfl⟩
    · rw [grant_empty r x k hstored]
      exact .inr ⟨by simpa using hbusy, rfl⟩
  | blockWrite | headerWrite | headerRead | blockRead | compare => exact .inl ⟨_, rfl, rfl, rfl⟩

theorem ReaderInv.grant {s : State} (h : ReaderInv s) {r : Requester} {a : PortAccess} (hbusy : s.store.busy = none)
    (hwaiting : s.store.waiting r = some a) : ReaderInv (Machine.grant r a s) := by
  obtain ⟨hread, halone⟩ := (readerInv_iff s).mp h
  refine (readerInv_iff _).mpr ⟨?_, halone.grant r a⟩
  have hreader : (Machine.grant r a s).reader = s.reader := by simp
  rw [hreader, waiting_grant]
  have hidle := accessOf_none_of_idle .diag hbusy
  by_cases hr : r = .diag
  · subst hr
    rw [hwaiting] at hread
    obtain ⟨⟨read, hbusyReader⟩, hreply, -⟩ := hread.of_waiting
    rw [if_pos rfl, hbusyReader]
    rcases grant_access_or_reply .diag a hbusy with ⟨w, hw, hrequester, hsame⟩ | ⟨hnone, hreplied⟩
    · rw [hsame, hreply, accessOf_of_busy hw hrequester]
      exact readAt_accessing read w
    · obtain ⟨m, hm⟩ := Option.isSome_iff_exists.mp hreplied
      rw [hm, accessOf_none_of_idle .diag hnone]
      exact readAt_replied read m
  · have hother := halone r hr a hwaiting
    have haccess : (Machine.grant r a s).store.accessOf .diag = none := by
      refine accessOf_eq_none fun w hw => ?_
      rw [grant_access r a s ((isDiag_eq_false_iff a).mp hother)] at hw
      cases hw
      exact hr
    rw [if_neg (Ne.symm hr), grant_diagReply_of_other hother, haccess, ← hidle]
    exact hread

theorem ReaderInv.arbitrate {s : State} (h : ReaderInv s) : ReaderInv (arbitrate s) :=
  arbitrate_induction (P := ReaderInv) (fun _ _ _ hbusy hwaiting hs => hs.grant hbusy hwaiting) h

theorem ReaderInv.of_same {s u : State} (h : ReaderInv s) (hview : u.replyView = s.replyView)
    (hdiag : u.store.waiting .diag = s.store.waiting .diag) (haccess : u.store.accessOf .diag = s.store.accessOf .diag)
    (halone : DiagWaitsAlone u.store) : ReaderInv u := by
  obtain ⟨hread, -⟩ := (readerInv_iff s).mp h
  simp only [State.replyView, Prod.mk.injEq] at hview
  obtain ⟨-, -, hreply, hreader⟩ := hview
  exact (readerInv_iff u).mpr ⟨by rwa [hreader, hreply, hdiag, haccess], halone⟩

/-! ## The store's port (R132) -/

/-- The reader, and no request waiting at an idle port. -/
def PortOk (s : State) : Prop := ReaderInv s ∧ NoRequestAtIdlePort s.store

/-- From `s` to `u` the port and the reader stay in order, and the C-port's transmitter stays as it is. -/
def PortKeeps (s u : State) : Prop := (PortOk s → PortOk u) ∧ u.cLine = s.cLine

theorem PortKeeps.trans {s v u : State} (h : PortKeeps s v) (h' : PortKeeps v u) : PortKeeps s u := by
  obtain ⟨hok, hline⟩ := h
  obtain ⟨hok', hline'⟩ := h'
  exact ⟨fun hs => hok' (hok hs), hline'.trans hline⟩

theorem DiagWaitsAlone.of_waiting {st st' : FrameStore} (h : DiagWaitsAlone st)
    (hwaiting : ∀ r, st'.waiting r = st.waiting r ∨ st'.waiting r = none) : DiagWaitsAlone st' := by
  intro r hr a ha
  rcases hwaiting r with hsame | hnone
  · rw [hsame] at ha
    exact h r hr a ha
  · rw [hnone] at ha
    cases ha

section PortKeeps

variable {s u : State}

theorem portKeeps_of_same (hview : u.replyView = s.replyView) (hbusy : u.store.busy = s.store.busy)
    (hwaiting : ∀ r, u.store.waiting r = s.store.waiting r) : PortKeeps s u := by
  refine ⟨fun ⟨hreader, hidle⟩ => ⟨?_, fun hnone r => ?_⟩, cLine_of_replyView hview⟩
  · obtain ⟨-, halone⟩ := (readerInv_iff s).mp hreader
    exact hreader.of_same hview (hwaiting _) (accessOf_congr _ hbusy) (halone.of_waiting fun r => .inl (hwaiting r))
  · rw [hwaiting]
    exact hidle (hbusy ▸ hnone) r

theorem portKeeps_of_store (hview : u.replyView = s.replyView) (hstore : u.store = s.store) : PortKeeps s u :=
  portKeeps_of_same hview (by rw [hstore]) fun r => by rw [hstore]

theorem portKeeps_of_slots (hview : u.replyView = s.replyView) (hstore : u.store = { s.store with slots := u.store.slots }) :
    PortKeeps s u :=
  portKeeps_of_same hview (by rw [hstore]) fun r => waiting_withSlotsOf hstore r

/-- Of the transmitter a grant leaves everything. -/
theorem cLine_arbitrate (s : State) : (arbitrate s).cLine = s.cLine := by rw [State.cLine, arbitrate_cPort]; rfl

theorem portOk_arbitrate (h : ReaderInv s) : PortOk (arbitrate s) := by
  obtain ⟨-, halone⟩ := (readerInv_iff s).mp h
  exact ⟨h.arbitrate, arbitrate_noRequest halone⟩

theorem portKeeps_requestPort {r : Requester} (hr : r ≠ .diag) {a : PortAccess} (ha : a.isDiag = false) :
    PortKeeps s (requestPort r a s) := by
  refine ⟨fun ⟨hreader, _⟩ => portOk_arbitrate (s := { s with store := s.store.setWaiting r (some a) }) ?_, cLine_arbitrate _⟩
  obtain ⟨-, halone⟩ := (readerInv_iff s).mp hreader
  refine hreader.of_same rfl (waiting_setWaiting_ne (Ne.symm hr) _ _) (accessOf_congr _ (setWaiting_busy _ _ _)) ?_
  intro q hq b hb
  by_cases hqr : q = r
  · subst hqr
    rw [waiting_setWaiting] at hb
    cases hb
    exact ha
  · rw [waiting_setWaiting_ne hqr] at hb
    exact halone q hq b hb

theorem portKeeps_releasePort {w : PortUse} (hbusy : s.store.busy = some w) (hw : w.requester ≠ .diag) :
    PortKeeps s (releasePort s) := by
  refine ⟨fun ⟨hreader, _⟩ => portOk_arbitrate (s := { s with store := { s.store with busy := none } }) ?_, cLine_arbitrate _⟩
  obtain ⟨-, halone⟩ := (readerInv_iff s).mp hreader
  have hnone : s.store.accessOf .diag = none := accessOf_eq_none fun v hv => by
    rw [hbusy] at hv
    cases hv
    exact hw
  exact hreader.of_same rfl (waiting_withBusy _ _ _) (by rw [hnone]; exact accessOf_none_of_idle _ rfl)
    (halone.of_waiting fun r => .inl (waiting_withBusy _ _ _))

theorem portKeeps_withdrawn {x : Side} (hview : u.replyView = s.replyView)
    (hstore : u.store = { s.store.withdrawLink x with slots := u.store.slots }) : PortKeeps s u := by
  have hwaiting (r : Requester) : u.store.waiting r = if r = linkRequester x then none else s.store.waiting r := by
    rw [waiting_withSlotsOf hstore, waiting_withdrawLink]
  have hbusy : u.store.busy = (s.store.withdrawLink x).busy := by rw [hstore]
  have hne := linkRequester_ne_diag x
  refine ⟨fun ⟨hreader, hidle⟩ => ⟨?_, fun hnone r => ?_⟩, cLine_of_replyView hview⟩
  · obtain ⟨-, halone⟩ := (readerInv_iff s).mp hreader
    refine hreader.of_same hview (by rw [hwaiting, if_neg hne]) (by rw [accessOf_congr _ hbusy, accessOf_withdrawLink hne])
      (halone.of_waiting fun r => ?_)
    rw [hwaiting]
    split
    · exact .inr rfl
    · exact .inl rfl
  · rw [hbusy, busy_withdrawLink, Option.map_eq_none_iff] at hnone
    rw [hwaiting, hidle hnone r]
    split <;> rfl

end PortKeeps

/-! ## The links (R136 to R152) -/

section LinkKeeps

variable {x : Side} {s u : State}

theorem replyView_setLink (x : Side) (l : LampLink) (s : State) : (s.setLink x l).replyView = s.replyView := by
  cases x <;> rfl

theorem replyView_sendOnLink (x : Side) (bytes : List Byte) (s : State) : (sendOnLink x bytes s).replyView = s.replyView :=
  replyView_setLink x _ s

theorem portKeeps_beginAttempt (x : Side) (t : Transfer) (s : State) : PortKeeps s (beginAttempt x t s) := by
  have hready : PortKeeps s (attemptReady x t s) :=
    portKeeps_withdrawn (x := x) (replyView_setLink x _ _) (by rw [attemptReady_store])
  have hne := linkRequester_ne x
  obtain ⟨-, hdiag⟩ := hne
  rw [beginAttempt_eq]
  cases t.step with
  | compare => exact hready
  | header => exact hready.trans (portKeeps_requestPort hdiag rfl)
  | block k => exact hready.trans (portKeeps_requestPort hdiag rfl)
  | finish => exact hready.trans (portKeeps_of_store (replyView_sendOnLink _ _ _) (by simp [sendOnLink]))

theorem portKeeps_abandonTransfer (x : Side) (s : State) : PortKeeps s (abandonTransfer x s) :=
  portKeeps_withdrawn (x := x) ((replyView_setLink x _ _).trans (replyView_setLink x _ _)) (abandonTransfer_store_eq x s)

theorem portKeeps_startTransfer (x : Side) (n : Fin 6) (applied : Nat) (full absent : Bool) (s : State) :
    PortKeeps s (startTransfer x n applied full absent s) := by
  have htaken : PortKeeps s (takenState x n s) :=
    portKeeps_withdrawn (x := x) (replyView_setLink x _ _) (by rw [takenState_store, take_eq])
  have hready : PortKeeps s (compareReady x n s) :=
    htaken.trans (portKeeps_of_store (replyView_setLink x _ _) (by simp [compareReady]))
  obtain ⟨-, hdiag⟩ := linkRequester_ne x
  rw [startTransfer_eq]
  dsimp only
  split
  · exact htaken.trans (portKeeps_beginAttempt x _ _)
  · split
    · exact htaken.trans (portKeeps_beginAttempt x _ _)
    · exact hready.trans (portKeeps_requestPort hdiag rfl)

theorem replyView_takeLampState (x : Side) (temp : Int) (ok : Bool) (entries : List Nat) (s : State) :
    (takeLampState x temp ok entries s).replyView = s.replyView := by
  have hcheck (limit : Nat) (v : State) : (checkDeadLimit x limit v).replyView = v.replyView := by
    unfold checkDeadLimit
    dsimp only
    split
    · split
      · rfl
      · exact (replyView_raiseFault _ _).trans (replyView_setLink x _ v)
    · exact replyView_setLink x _ v
  unfold takeLampState
  dsimp only
  refine (hcheck _ _).trans ?_
  split
  · exact (replyView_raiseNotice _ _).trans (replyView_setLink x _ s)
  · exact replyView_setLink x _ s

theorem replyView_linkLost (x : Side) (s : State) : (linkLost x s).replyView = s.replyView := by
  obtain ⟨-, -, -, -, -, -, -, -, -, -, -, -, hcPort, hreader, -⟩ := linkLost_frame x s
  simp only [State.replyView, hcPort, hreader]

theorem LinkChange.portKeeps (h : LinkChange x s u) : PortKeeps s u := by
  obtain ⟨-, hdiag⟩ := linkRequester_ne x
  have hne {w : PortUse} (hr : w.requester = linkRequester x) : w.requester ≠ .diag := fun h => hdiag (hr.symm.trans h)
  have hsent (bytes : List Byte) : PortKeeps s (sendOnLink x bytes s) :=
    portKeeps_of_store (replyView_sendOnLink x bytes s) (by simp [sendOnLink])
  cases h with
  | discarded w hbusy hr => exact portKeeps_releasePort hbusy (hne hr)
  | headerSent t w i bytes hbusy hr =>
    exact (hsent bytes).trans (portKeeps_releasePort (by simpa [sendOnLink] using hbusy) (hne hr))
  | blockSent t w i lamp k bytes hbusy hr =>
    exact (hsent bytes).trans (portKeeps_releasePort (by simpa [sendOnLink] using hbusy) (hne hr))
  | compared t w a b lamp k hbusy hr =>
    have hnoted : PortKeeps s (afterNote x a b lamp k t s) :=
      portKeeps_of_store (replyView_setLink x _ s) (by simp [afterNote])
    have hreleased : PortKeeps s (releasePort (afterNote x a b lamp k t s)) :=
      hnoted.trans (portKeeps_releasePort (by simpa [afterNote] using hbusy) (hne hr))
    refine hreleased.trans ?_
    unfold afterCompare
    split
    · exact portKeeps_requestPort hdiag rfl
    · exact portKeeps_requestPort hdiag rfl
    · exact portKeeps_requestPort hdiag rfl
    · exact portKeeps_requestPort hdiag rfl
    · exact portKeeps_beginAttempt x _ _
  | wireFreed => exact portKeeps_of_store (replyView_setLink x _ s) (by simp)
  | lampState bytes temp ok entries => exact portKeeps_of_store (replyView_takeLampState x _ _ _ s) (by simp)
  | lost =>
    have hlost : PortKeeps s (linkLost x s) := portKeeps_withdrawn (x := x) (replyView_linkLost x s) (linkLost_store_eq x s)
    exact hlost.trans (portKeeps_of_store ((replyView_raiseNotice _ _).trans (replyView_raiseFault _ _)) (by simp))
  | fetched n applied full absent => exact portKeeps_startTransfer x n applied full absent s
  | acknowledged t =>
    by_cases hfinish : t.step = .finish
    · rw [takeAck_finish s hfinish]
      exact portKeeps_withdrawn (x := x) ((replyView_setLink x _ _).trans (replyView_setLink x _ _)) (completeTransfer_store_eq x t s)
    · rw [takeAck_step s hfinish]
      exact portKeeps_beginAttempt x _ s
  | resent t =>
    by_cases hagain : t.retries < 3
    · rw [demandResend_again s hagain]
      exact portKeeps_beginAttempt x _ s
    · rw [demandResend_failed s hagain]
      exact (portKeeps_abandonTransfer x s).trans (portKeeps_of_store (replyView_raiseFault _ _) (by simp [failTransfer]))
  | quitted t => exact portKeeps_abandonTransfer x s

end LinkKeeps

/-! ## The other blocks -/

theorem BuildChange.portKeeps {s u : State} (h : BuildChange s u) : PortKeeps s u := by
  have hcommit : Requester.commit ≠ .diag := by decide
  cases h with
  | overrun b => exact portKeeps_of_store (replyView_raiseFault _ _) (by simp [restartTimer])
  | started slot => exact portKeeps_of_slots (replyView_startBuild (restartTimer s) slot) (by rw [startBuild_store]; rfl)
  | computed b =>
    have hcomputed : PortKeeps s (afterCompute b s) := portKeeps_of_store (replyView_afterCompute s b) (by simp)
    exact hcomputed.trans (portKeeps_requestPort hcommit (isDiag_commitWrite _))
  | blockWritten b f n w lamp k hphase hbusy hw =>
    have hwritten : PortKeeps s (afterBlockWrite b f n lamp k s) := portKeeps_of_slots rfl rfl
    exact (hwritten.trans (portKeeps_releasePort hbusy (hw ▸ hcommit))).trans (portKeeps_requestPort hcommit (isDiag_commitWrite _))
  | committed b f n w hphase hbusy hw =>
    have hcommitted : PortKeeps s (afterCommit b f s) :=
      portKeeps_of_slots (replyView_afterCommit s b f) (by rw [afterCommit_store, afterHeaderWrite_eq])
    refine hcommitted.trans (portKeeps_releasePort (w := w) ?_ (hw ▸ hcommit))
    rw [afterCommit_store, afterHeaderWrite_eq]
    exact hbusy

/-- An installation puts a diagnostic read under way back and grants it afresh; nothing else is left at the port (R133). -/
theorem portKeeps_installed (s : State) : PortKeeps s (arbitrate (installLimp s)) := by
  refine ⟨fun ⟨hreader, _⟩ => portOk_arbitrate ?_, cLine_arbitrate _⟩
  obtain ⟨hread, -⟩ := (readerInv_iff s).mp hreader
  refine (readerInv_iff _).mpr ⟨?_, ?_⟩
  · have hdiag : (installLimp s).store.waiting .diag = ((s.store.accessOf .diag).map (·.access)).or (s.store.waiting .diag) := rfl
    rw [hdiag, accessOf_none_of_idle .diag (st := (installLimp s).store) rfl]
    show ReadAt s.reader s.cPort.diagReply _ none
    cases haccess : s.store.accessOf .diag with
    | none =>
      rw [haccess] at hread
      exact hread
    | some w =>
      rw [haccess] at hread
      obtain ⟨⟨read, hbusy⟩, hreply, -⟩ := hread.of_accessing
      rw [hbusy, hreply]
      exact readAt_waiting read _
  · intro r hr a ha
    cases r with
    | commit | linkL | linkR => cases ha
    | diag => exact absurd rfl hr

theorem OperatingChange.portKeeps {c : Instr} {s u : State} (h : OperatingChange s c u) : PortKeeps s u := by
  have hreport (v : State) : PortKeeps v (reportChange v) := portKeeps_of_store (replyView_reportChange v) (by simp)
  have hreset : PortKeeps s (resetBlocks s) := by
    unfold resetBlocks
    refine PortKeeps.trans ?_ (portKeeps_installed _)
    exact portKeeps_of_store rfl rfl
  cases h with
  | written p v =>
    refine portKeeps_of_store ?_ (by simp)
    unfold writeParam
    dsimp only
    split
    · rfl
    · exact replyView_raiseNotice _ _
  | ran data => exact (portKeeps_of_store (u := enterRun s) rfl rfl).trans (hreport _)
  | configured data =>
    have hentered : PortKeeps s (enterConfig s) := by
      unfold enterConfig
      refine PortKeeps.trans ?_ (portKeeps_installed _)
      exact portKeeps_of_store rfl rfl
    exact hentered.trans (hreport _)
  | restarted data => exact hreset
  | restartedAnew data => exact hreset.trans (hreport _)

/-- The diagnostic unit's commands and the reader's: a read is taken only by a free reader. -/
theorem DiagChange.portKeeps {c : Instr} {s u : State} (h : DiagChange s c u) : PortKeeps s u := by
  cases h with
  | faultsCleared | noticesCleared | masked | unmasked => exact portKeeps_of_store rfl rfl
  | answered _ data d hfree =>
    refine ⟨fun ⟨hreader, hidle⟩ => ⟨?_, hidle⟩, rfl⟩
    obtain ⟨hread, halone⟩ := (readerInv_iff s).mp hreader
    rw [hfree] at hread
    obtain ⟨-, hwaits, haccess⟩ := hread.of_reader_free
    refine (readerInv_iff _).mpr ⟨?_, halone⟩
    show ReadAt (some data) (some { read := data, data := d }) (s.store.waiting .diag) (s.store.accessOf .diag)
    rw [hwaits, haccess]
    exact readAt_replied data _
  | asked _ data i x k hfree =>
    refine ⟨fun ⟨hreader, _⟩ =>
      portOk_arbitrate (s := { s with reader := some data, store := s.store.setWaiting .diag (some (.diagRead i x k)) }) ?_,
      cLine_arbitrate _⟩
    obtain ⟨hread, halone⟩ := (readerInv_iff s).mp hreader
    rw [hfree] at hread
    obtain ⟨hreply, -, haccess⟩ := hread.of_reader_free
    refine (readerInv_iff _).mpr ⟨?_, fun r hr => ?_⟩
    · show ReadAt (some data) s.cPort.diagReply ((s.store.setWaiting .diag _).waiting .diag) ((s.store.setWaiting .diag _).accessOf .diag)
      rw [waiting_setWaiting, accessOf_congr _ (setWaiting_busy _ _ _), hreply, haccess]
      exact readAt_waiting data _
    · show ∀ a ∈ (s.store.setWaiting .diag _).waiting r, a.isDiag = false
      rw [waiting_setWaiting_ne hr]
      exact halone r hr
  | read _ w hbusy hw =>
    refine ⟨fun ⟨hreader, _⟩ => portOk_arbitrate
      (s := { placeReply (foundReply w.found) s with store := { s.store with busy := none } }) ?_, cLine_arbitrate _⟩
    obtain ⟨hread, halone⟩ := (readerInv_iff s).mp hreader
    rw [accessOf_of_busy hbusy hw] at hread
    obtain ⟨⟨read, hbusyReader⟩, -, hwaits⟩ := hread.of_accessing
    refine (readerInv_iff _).mpr ⟨?_, halone.of_waiting fun r => .inl (waiting_withBusy _ _ _)⟩
    show ReadAt s.reader (some { read := s.reader.getD [], data := foundReply w.found })
      (({ s.store with busy := none } : FrameStore).waiting .diag) (({ s.store with busy := none } : FrameStore).accessOf .diag)
    rw [waiting_withBusy, accessOf_none_of_idle .diag rfl, hwaits, hbusyReader]
    exact readAt_replied read _

/-! ## Every change, and the begun transmissions -/

/-- What every state keeps from which the transmissions begin. -/
def PortsReady (s : State) : Prop :=
  PortOk s ∧ (s.vPort.busOff = true → s.vPort.sending = none) ∧ (s.cPort.busOff = true → s.cPort.sending = none)

theorem PortsInv.ready {s : State} (h : PortsInv s) : PortsReady s := by
  obtain ⟨⟨hv, -⟩, ⟨hc, -⟩, hreader, hidle⟩ := h
  exact ⟨⟨hreader, hidle⟩, hv, hc⟩

theorem PortsReady.portsInv {s : State} (h : PortsReady s) : PortsInv (beginTransmissions s) := by
  obtain ⟨⟨hreader, hidle⟩, hv, hc⟩ := h
  refine ⟨sendOk_beginVPort hv, sendOk_beginCPort hc, ?_, hidle⟩
  obtain ⟨hread, halone⟩ := (readerInv_iff s).mp hreader
  refine (readerInv_iff _).mpr ⟨?_, halone⟩
  show ReadAt (beginTransmissions s).reader (beginCPort s.cPort).diagReply (s.store.waiting .diag) (s.store.accessOf .diag)
  rcases beginCPort_diagReply s.cPort with hsame | hnone
  · rw [reader_kept hsame, hsame]
    exact hread
  · cases hreply : s.cPort.diagReply with
    | none =>
      rw [reader_kept (hnone.trans hreply.symm), hnone, ← hreply]
      exact hread
    | some m =>
      rw [hreply] at hread
      obtain ⟨hwaits, haccess⟩ := hread.of_replied
      rw [reader_freed hreply hnone, hnone, hwaits, haccess]
      exact readAt_free

theorem PortsReady.of_keeps {s u : State} (h : PortsReady s) (hkeeps : PortKeeps s u)
    (hv : u.vPort.busOff = true → u.vPort.sending = none) : PortsReady u := by
  obtain ⟨hok, -, hc⟩ := h
  obtain ⟨hkeep, hline⟩ := hkeeps
  simp only [State.cLine, Prod.mk.injEq] at hline
  obtain ⟨hoff, hsending⟩ := hline
  exact ⟨hkeep hok, hv, by rw [hoff, hsending]; exact hc⟩

theorem BuildChange.vPort_line {s u : State} (h : BuildChange s u) :
    u.vPort.busOff = s.vPort.busOff ∧ u.vPort.sending = s.vPort.sending := by
  cases h with
  | overrun | started | computed | blockWritten => simp [restartTimer, afterBlockWrite]
  | committed b f n w =>
    have hline : (afterCommit b f s).vPort = { s.vPort with litmap := some (litMapOf f) } := rfl
    simp [hline]

theorem PortChange.portsReady {s u : State} (h : PortChange s u) (hs : PortsReady s) : PortsReady u := by
  obtain ⟨⟨hreader, hidle⟩, hv, hc⟩ := hs
  have hread {v : State} (hreply : v.cPort.diagReply = s.cPort.diagReply) (hr : v.reader = s.reader)
      (hstore : v.store = s.store) : PortOk v := by
    obtain ⟨hat, halone⟩ := (readerInv_iff s).mp hreader
    exact ⟨(readerInv_iff v).mpr (by rw [hreply, hr, hstore]; exact ⟨hat, halone⟩), by rw [hstore]; exact hidle⟩
  cases h with
  | vOff => exact ⟨hread rfl rfl rfl, fun _ => rfl, hc⟩
  | vRecovered hoff => exact ⟨hread rfl rfl rfl, fun h => Bool.noConfusion h, hc⟩
  | vEnded => exact ⟨hread rfl rfl rfl, fun _ => rfl, hc⟩
  | cRecovered hoff => exact ⟨hread rfl rfl rfl, hv, fun h => Bool.noConfusion h⟩
  | cEnded => exact ⟨hread rfl rfl rfl, hv, fun _ => rfl⟩
  | cOff =>
    refine ⟨⟨?_, hidle⟩, hv, fun _ => rfl⟩
    obtain ⟨hat, halone⟩ := (readerInv_iff s).mp hreader
    refine (readerInv_iff _).mpr ⟨?_, halone⟩
    show ReadAt (if s.cPort.diagReply.isSome then none else s.reader) none (s.store.waiting .diag) (s.store.accessOf .diag)
    cases hreply : s.cPort.diagReply with
    | none =>
      rw [hreply] at hat
      exact hat
    | some m =>
      rw [hreply] at hat
      obtain ⟨hwaits, haccess⟩ := hat.of_replied
      rw [hwaits, haccess]
      exact readAt_free

theorem Change.portsReady {c : Instr} {s u : State} (h : Change c s u) (hs : PortsReady s) : PortsReady u := by
  have hkept {u : State} (hkeeps : PortKeeps s u) (hv : u.vPort = s.vPort) : PortsReady u := by
    have ⟨_, hline, _⟩ := hs
    exact hs.of_keeps hkeeps (by rw [hv]; exact hline)
  cases h with
  | unchanged => exact hs
  | fault f => exact hkept (portKeeps_of_store (replyView_raiseFault s f) (by simp)) (by simp)
  | tracks h => exact hkept (portKeeps_of_store h.replyView (by simp [h.frame])) (by simp [h.frame])
  | driving h => exact hkept (portKeeps_of_store h.replyView (by simp [h.frame])) (by simp [h.frame])
  | cache h => exact hkept (portKeeps_of_store h.replyView (by simp [h.frame])) (by simp [h.frame])
  | link x h => exact hkept h.portKeeps (by simp [h.frame])
  | diag h => exact hkept h.portKeeps (by simp [h.frame])
  | operating h => exact hkept h.portKeeps (by simp [h.frame])
  | port h => exact h.portsReady hs
  | build h =>
    have ⟨_, hline, _⟩ := hs
    obtain ⟨hoff, hsending⟩ := h.vPort_line
    exact hs.of_keeps h.portKeeps (by rw [hoff, hsending]; exact hline)

theorem portsInv_congr {s u : State} (hv : u.vPort = s.vPort) (hc : u.cPort = s.cPort) (hreader : u.reader = s.reader)
    (hstore : u.store = s.store) : PortsInv u ↔ PortsInv s := by
  simp only [PortsInv, ReaderInv, hv, hc, hreader, hstore]

theorem portsInv_afterPowerOnReset (s : State) : PortsInv (afterPowerOnReset s) := by
  refine ⟨⟨fun h => Bool.noConfusion h, fun _ _ => rfl⟩, ⟨fun h => Bool.noConfusion h, fun _ h => by cases h⟩,
    (readerInv_iff _).mpr ⟨readAt_free, fun r _ a ha => ?_⟩, fun _ r => ?_⟩
  · cases r <;> cases ha
  · cases r <;> rfl

/-! ## After a reset (R183) -/

theorem trackTableInv_afterPowerOnReset (s : State) : TrackTableInv (afterPowerOnReset s) :=
  (trackTableInv_iff _).mpr TableOk.nil

theorem inv_afterPowerOnReset (s : State) : Inv (afterPowerOnReset s) := by
  obtain ⟨hcalibration, htimes⟩ := setsInv_afterPowerOnReset s
  exact ⟨trackTableInv_afterPowerOnReset s, hcalibration, htimes, presenceInv_reset rfl rfl rfl, (cacheInv_iff _).mpr cacheOk_reset,
    ⟨storeInv_afterPowerOnReset s, frameOk_afterPowerOnReset s⟩, (linksInv_iff _).mpr fun x => linkOk_afterPowerOnReset x s,
    segmentInv_afterPowerOnReset s, portsInv_afterPowerOnReset s⟩

end Sys2Proof.Machine

namespace Sys2Proof.Proofs

open Sys2Proof.Machine

/-- Settles O59: every change leaves the port arbitrated and at most one place for a read; what stands queued for a free transmitter
then begins. -/
theorem portsAndReaderKeptByEveryStep : Obligations.PortsAndReaderKeptByEveryStep := by
  refine keptByStep_of (fun s p => (portsInv_congr rfl rfl rfl rfl).mpr) (fun s h => ?_) portsInv_afterPowerOnReset
    fun c s u h hchange => (hchange.portsReady h.ready).portsInv
  exact (portsInv_congr rfl rfl rfl rfl).mpr h

/-- Settles O60: the reset state is the one that a power-on reset leaves of it. -/
theorem invariantsHoldAfterReset : Obligations.InvariantsHoldAfterReset := inv_afterPowerOnReset State.reset

end Sys2Proof.Proofs

end

section
/-! SUPPORT. The installation of the LIMP frame and what CONFIG_ENTER and RESTART leave (R130, R133, R181, R182); then the proofs of the
statements. -/

namespace Sys2Proof.Machine

/-! ## The slots and the links after the installation (R130) -/

theorem slot_installed (v : State) (i : Fin 6) :
    (arbitrate (installLimp v)).store.slot i = if i = 0 then limpSlot else freeSlot (v.store.slot i).memory := by
  have hslots : (arbitrate (installLimp v)).store.slots = v.store.installLimp.slots := by simp
  rw [FrameStore.slot, hslots]
  exact slot_installLimp v.store i

/-- A store in which slot 0 alone is STORED, with the LIMP frame. -/
def LimpStored (st : FrameStore) : Prop :=
  (st.slot 0).newest = true ∧ (st.slot 0).state = .stored ∧ (st.slot 0).sequence = some 0 ∧
    (st.slot 0).holders = noHolders ∧ (st.slot 0).memory = frameToMemory limpFrame ∧
    ∀ i : Fin 6, i ≠ 0 → (st.slot i).state = .free ∧ (st.slot i).newest = false ∧
      (st.slot i).holders = noHolders ∧ (st.slot i).sequence = none

theorem limpStored_installed (v : State) : LimpStored (arbitrate (installLimp v)).store := by
  have hzero : (arbitrate (installLimp v)).store.slot 0 = limpSlot := slot_installed v 0
  refine ⟨by rw [hzero]; rfl, by rw [hzero]; rfl, by rw [hzero]; rfl, by rw [hzero]; rfl, by rw [hzero]; rfl, fun i hi => ?_⟩
  rw [slot_installed, if_neg hi]
  exact ⟨rfl, rfl, rfl, rfl⟩

/-- The newest frame's header is the LIMP frame's. -/
theorem LimpStored.header {st : FrameStore} (h : LimpStored st) {header : FrameHeader}
    (hheader : ∀ i : Fin 6, (st.slot i).newest = true → (∀ j, (st.slot j).newest = true → j = i) →
      header = (st.slot i).memory.header) : header.sequence = 0 := by
  obtain ⟨hnewest, -, -, -, hmemory, hothers⟩ := h
  rw [hheader 0 hnewest ?_, hmemory]
  · rfl
  · intro j hj
    by_contra hne
    obtain ⟨-, hold, -⟩ := hothers j hne
    rw [hold] at hj
    cases hj

theorem link_installed (v : State) (x : Side) :
    (arbitrate (installLimp v)).link x = { v.link x with transfer := none, applied := none, waiting := none } := by
  cases x with
  | left => simp [State.link, LampLink.afterInstall]
  | right => simp [State.link, LampLink.afterInstall]

/-! ## The port after the installation (R132, R133) -/

/-- The port once the installation has put a diagnostic read's request back and the arbiter is done. -/
def ServedAfresh (asked : Option PortAccess) (s u : State) : Prop :=
  (∀ w ∈ u.store.busy, w.requester = .diag) ∧
    u.store.waitCommit = none ∧ u.store.waitLinkL = none ∧ u.store.waitLinkR = none ∧
    (asked = none →
      u.store.busy = none ∧ u.store.waitDiag = none ∧ u.store.lastGranted = s.store.lastGranted ∧
        u.cPort.diagReply = s.cPort.diagReply) ∧
    ∀ (i : Fin 6) (x : Side) (k : Fin 5), asked = some (.diagRead i x k) →
      u.store.waitDiag = none ∧ u.store.lastGranted = .diag ∧
        (i = 0 →
          u.store.busy = some
              { requester := .diag, access := .diagRead i x k, wanted := true
                found := some
                  { newest := true, holders := noHolders, sequence := 0, values := List.replicate 24 0 } } ∧
            u.cPort.diagReply = s.cPort.diagReply) ∧
        (i ≠ 0 → ∀ read ∈ s.reader, u.cPort.diagReply = some { read := read, data := .empty })

section ServedAfresh

variable {v : State}

theorem waiting_installLimp_other (v : State) {r : Requester} (hr : r ≠ .diag) : (installLimp v).store.waiting r = none := by
  cases r with
  | commit | linkL | linkR => rfl
  | diag => exact absurd rfl hr

theorem arbitrate_installLimp_none (h : (installLimp v).store.waiting .diag = none) : arbitrate (installLimp v) = installLimp v := by
  refine arbitrate_idle fun r => ?_
  by_cases hr : r = .diag
  · rw [hr, h]
  · exact waiting_installLimp_other v hr

/-- The request put back alone waits, and is granted. -/
theorem arbitrate_installLimp_some {a : PortAccess} (h : (installLimp v).store.waiting .diag = some a) :
    arbitrate (installLimp v) = grant .diag a (installLimp v) := by
  have hnext : (installLimp v).store.nextGrant = some (.diag, a) := nextGrant_only h fun q hq => waiting_installLimp_other v hq
  have hnone : (grant .diag a (installLimp v)).store.nextGrant = none := by
    refine (nextGrant_eq_none _).mpr fun q => ?_
    rw [waiting_grant]
    split
    · rfl
    next hq => exact waiting_installLimp_other v hq
  rw [arbitrate, grantNext_some _ .diag a rfl hnext, grantNext_none _ hnone]

theorem waits_grant_installLimp (a : PortAccess) (v : State) :
    (grant .diag a (installLimp v)).store.waitCommit = none ∧ (grant .diag a (installLimp v)).store.waitLinkL = none ∧
      (grant .diag a (installLimp v)).store.waitLinkR = none ∧ (grant .diag a (installLimp v)).store.waitDiag = none := by
  have hwaiting (q : Requester) : (grant .diag a (installLimp v)).store.waiting q = none := by
    rw [waiting_grant]
    split
    · rfl
    next hq => exact waiting_installLimp_other v hq
  exact ⟨hwaiting .commit, hwaiting .linkL, hwaiting .linkR, hwaiting .diag⟩

theorem busy_grant_installLimp (a : PortAccess) (v : State) :
    ∀ w ∈ (grant .diag a (installLimp v)).store.busy, w.requester = .diag := by
  intro w hw
  rcases busy_grant .diag a (installLimp v) rfl with ⟨-, hnone⟩ | ⟨found, hsome⟩
  · rw [hnone] at hw
    cases hw
  · rw [hsome] at hw
    cases hw
    rfl

theorem servedAfresh (v : State) : ServedAfresh ((installLimp v).store.waiting .diag) v (arbitrate (installLimp v)) := by
  cases hasked : (installLimp v).store.waiting .diag with
  | none =>
    rw [arbitrate_installLimp_none hasked]
    exact ⟨fun w hw => (by cases hw), rfl, rfl, rfl, fun _ => ⟨rfl, hasked, rfl, rfl⟩, fun i x k h => (by cases h)⟩
  | some a =>
    rw [arbitrate_installLimp_some hasked]
    obtain ⟨hcommit, hlinkL, hlinkR, hdiag⟩ := waits_grant_installLimp a v
    refine ⟨busy_grant_installLimp a v, hcommit, hlinkL, hlinkR, fun h => (by cases h), fun i x k h => ?_⟩
    cases h
    refine ⟨hdiag, ?_⟩
    by_cases hi : i = 0
    · subst hi
      have hslot : (installLimp v).store.slot 0 = limpSlot := slot_installLimp v.store 0
      rw [grant_stored .diag x k (by rw [hslot]; rfl), hslot]
      refine ⟨rfl, fun _ => ⟨?_, rfl⟩, fun h => absurd rfl h⟩
      have hvalues : limpSlot.memory.block x k = List.replicate 24 0 := block_limpFrame x k
      rw [hvalues]
      rfl
    · have hslot : (installLimp v).store.slot i = freeSlot (v.store.slot i).memory := (slot_installLimp v.store i).trans (if_neg hi)
      rw [grant_empty .diag x k (by rw [hslot]; exact (by decide : SlotState.free ≠ .stored))]
      refine ⟨rfl, fun h => absurd h hi, fun _ read hread => ?_⟩
      have hreader : v.reader = some read := hread
      simp [hreader]

end ServedAfresh

theorem portInstalled_of_served {s u : State} (h : ServedAfresh ((installLimp s).store.waiting .diag) s u) : PortInstalled s u := by
  have hwaiting : (installLimp s).store.waiting .diag = ((s.store.accessOf .diag).map (·.access)).or s.store.waitDiag := rfl
  rw [hwaiting] at h
  unfold PortInstalled
  cases haccess : s.store.accessOf .diag with
  | none =>
    rw [haccess] at h
    exact h
  | some w =>
    rw [haccess] at h
    exact h

theorem portInstalled (v : State) : PortInstalled v (arbitrate (installLimp v)) := portInstalled_of_served (servedAfresh v)

/-- Without a diagnostic read nothing is answered. -/
theorem PortInstalled.diagReply {s u : State} (h : PortInstalled s u) (hwaits : s.store.waitDiag = none)
    (haccess : s.store.accessOf .diag = none) : u.cPort.diagReply = s.cPort.diagReply := by
  unfold PortInstalled at h
  rw [haccess] at h
  obtain ⟨-, -, -, -, hnone, -⟩ := h
  obtain ⟨-, -, -, hreply⟩ := hnone hwaits
  exact hreply

theorem PortInstalled.waits {s u : State} (h : PortInstalled s u) :
    u.store.waitCommit = none ∧ u.store.waitLinkL = none ∧ u.store.waitLinkR = none := by
  obtain ⟨-, hcommit, hlinkL, hlinkR, -⟩ := h
  exact ⟨hcommit, hlinkL, hlinkR⟩

/-- The report of a change leaves the port and the reply. -/
theorem PortInstalled.reported {s u : State} (h : PortInstalled s u) : PortInstalled s (reportChange u) := by
  have hstore : (reportChange u).store = u.store := by simp
  have hreply : (reportChange u).cPort.diagReply = u.cPort.diagReply := raiseNotice_diagReply _ u
  unfold PortInstalled at *
  rw [hstore, hreply]
  exact h

/-! ## The report of the change (R177, R182) -/

theorem raiseNotice_cPort (k : NoticeKind) (s : State) :
    (raiseNotice k s).cPort = { s.cPort with notice := (raiseNotice k s).cPort.notice } := by
  rw [raiseNotice_eq]
  dsimp only
  split <;> rfl

/-- What the NOTICE of a kind becomes depends on the pending set, the mask and what stands queued. -/
theorem raiseNotice_notice_congr (k : NoticeKind) {s v : State} (hdiag : v.diag = s.diag) (hnotice : v.cPort.notice = s.cPort.notice) :
    (raiseNotice k v).cPort.notice = (raiseNotice k s).cPort.notice := by
  rw [raiseNotice_eq, raiseNotice_eq]
  dsimp only
  rw [hdiag]
  split
  · exact hnotice
  · rw [hnotice]

theorem reportChange_limp {v : State} (h : LimpStored v.store) :
    ∃ r ∈ (reportChange v).cPort.status, r.operating = v.operating ∧ r.header.sequence = 0 ∧ r.OfChange (reportChange v) := by
  obtain ⟨r, hr, hoperating, hof⟩ := reportChange_ofChange v
  refine ⟨r, hr, hoperating, ?_, hof⟩
  obtain ⟨-, -, hheader, -⟩ := hof
  have hstore : (reportChange v).store = v.store := by simp
  rw [hstore] at hheader
  exact h.header hheader

/-! ## CONFIG_ENTER (R181) -/

theorem gives_configEnter_accepted {data : List Byte} {s : State} (hlen : data.length = 0) (hbus : s.cPort.busOff = false)
    (h : configAccepted s = true) : Gives (.configEnter data) s (reportChange (enterConfig s)) := by
  show execConfigEnter data s = _
  rw [execConfigEnter, lengthIs, hlen, beq_self_eq_true, receiveC_ok _ _ _ hbus, if_pos h]
  rfl

theorem gives_configEnter_refused {data : List Byte} {s : State} (hlen : data.length = 0) (hbus : s.cPort.busOff = false)
    (h : ¬configAccepted s = true) : Gives (.configEnter data) s (raiseFault (requestRefused idConfigEnter none) s) := by
  show execConfigEnter data s = _
  rw [execConfigEnter, lengthIs, hlen, beq_self_eq_true, receiveC_ok _ _ _ hbus, if_neg h]
  rfl

theorem enterConfig_cPort (s : State) : (enterConfig s).cPort = { s.cPort with diagReply := (enterConfig s).cPort.diagReply } :=
  arbitrate_cPort _

theorem enterConfig_builder (s : State) :
    (enterConfig s).builder = { s.builder with timer := none, phase := .idle, mirror := frameToMirror limpFrame } := by
  simp [enterConfig]

theorem enterConfig_link (s : State) (x : Side) :
    (enterConfig s).link x = { s.link x with transfer := none, applied := none, waiting := none } := by
  rw [enterConfig, link_installed]
  cases x <;> rfl

theorem portInstalled_enterConfig (s : State) : PortInstalled s (enterConfig s) := portInstalled _

theorem limpStored_enterConfig (s : State) : LimpStored (enterConfig s).store := limpStored_installed _

theorem link_reportChange (v : State) (x : Side) : (reportChange v).link x = v.link x := by cases x <;> simp [State.link]

/-! ## RESTART (R182) -/

/-- The state that a RESTART gives: STATE_CHANGED and a STATUS only where the operating state changes. -/
def restarted (s : State) : State :=
  if stateAfterRestart s = s.operating then resetBlocks s else reportChange (resetBlocks s)

theorem gives_restart {data : List Byte} {s : State} (hlen : data.length = 0) (hbus : s.cPort.busOff = false) :
    Gives (.restart data) s (restarted s) := by
  show execRestart data s = _
  rw [execRestart, lengthIs, hlen, beq_self_eq_true, receiveC_ok _ _ _ hbus, restarted]
  split <;> rfl

theorem resetBlocks_cPort (s : State) :
    (resetBlocks s).cPort = { s.cPort with distRequest := none, diagReply := (resetBlocks s).cPort.diagReply } :=
  arbitrate_cPort _

theorem resetBlocks_link (s : State) (x : Side) :
    (resetBlocks s).link x = { s.link x with transfer := none, applied := none, waiting := none } := by
  rw [resetBlocks, link_installed]
  cases x <;> rfl

theorem portInstalled_resetBlocks (s : State) : PortInstalled s (resetBlocks s) := portInstalled _

theorem limpStored_resetBlocks (s : State) : LimpStored (resetBlocks s).store := limpStored_installed _

/-- Beside the report of a change, what a RESTART gives is the reset of the blocks. -/
theorem restarted_keeps {P : State → Prop} {s : State} (hreset : P (resetBlocks s)) (hreport : ∀ v, P v → P (reportChange v)) :
    P (restarted s) := by
  unfold restarted
  split
  · exact hreset
  · exact hreport _ hreset

/-- The blocks after a RESTART. -/
theorem restarted_blocks (s : State) :
    (restarted s).operating = stateAfterRestart s ∧ (restarted s).working = s.committed.getD defaultCal ∧
      (restarted s).committed = s.committed ∧ (restarted s).tracks = [] ∧ (restarted s).motion = resetMotion ∧
      (restarted s).selector = resetSelector ∧ (restarted s).vision = resetVision ∧
      (restarted s).cache = restartCache s.cache ∧
      (restarted s).builder =
        { timer := if s.committed.isSome then some 0 else none, phase := .idle, workingCopy := none
          mirror := frameToMirror limpFrame } ∧
      (restarted s).vPort = s.vPort ∧ (restarted s).reader = s.reader ∧ (restarted s).pending = s.pending ∧
      (restarted s).freeIndex = s.freeIndex := by
  unfold restarted
  split
  · simp [resetBlocks]
  · simp [resetBlocks]

theorem restarted_store (s : State) : (restarted s).store = (resetBlocks s).store :=
  restarted_keeps (P := fun u => u.store = (resetBlocks s).store) rfl fun v hv => by simpa using hv

theorem restarted_link (s : State) (x : Side) :
    (restarted s).link x = { s.link x with transfer := none, applied := none, waiting := none } :=
  restarted_keeps (P := fun u => u.link x = _) (resetBlocks_link s x) fun v hv => (link_reportChange v x).trans hv

theorem portInstalled_restarted (s : State) : PortInstalled s (restarted s) :=
  restarted_keeps (portInstalled_resetBlocks s) fun _ hv => hv.reported

theorem restarted_diag (s : State) :
    (restarted s).diag =
      { s.diag with notices := if stateAfterRestart s = s.operating then 0 else NoticeKind.stateChanged.bit } := by
  unfold restarted
  split
  next h => rw [resetBlocks_diag]
  next h => rw [reportChange_diag, resetBlocks_diag]; simp

theorem restarted_cPort_same {s : State} (h : stateAfterRestart s = s.operating) :
    (restarted s).cPort = { s.cPort with distRequest := none, diagReply := (restarted s).cPort.diagReply } := by
  rw [restarted, if_pos h]
  exact resetBlocks_cPort s

theorem restarted_cPort_changed {s : State} (h : ¬stateAfterRestart s = s.operating) :
    (restarted s).cPort =
      { s.cPort with
        distRequest := none
        diagReply := (restarted s).cPort.diagReply
        status := (restarted s).cPort.status
        notice := (raiseNotice .stateChanged { s with diag := { s.diag with notices := 0 } }).cPort.notice } := by
  have hcPort := resetBlocks_cPort s
  have hnotice : (raiseNotice .stateChanged (resetBlocks s)).cPort.notice
      = (raiseNotice .stateChanged { s with diag := { s.diag with notices := 0 } }).cPort.notice :=
    raiseNotice_notice_congr _ (resetBlocks_diag s) (by rw [hcPort])
  have hreply := raiseNotice_diagReply .stateChanged (resetBlocks s)
  rw [restarted, if_neg h, reportChange_cPort, raiseNotice_cPort, hnotice]
  generalize resetBlocks s = v at hcPort
  rw [hcPort]

end Sys2Proof.Machine

namespace Sys2Proof.Proofs

open Sys2Proof.Machine

/-- Settles O5: an accepted CONFIG_ENTER is the report of the entry to CONFIG, whose store and port are the installation's. -/
theorem configEnterAcceptedOrRefused : Obligations.ConfigEnterAcceptedOrRefused := by
  intro data s hlen hbus
  rw [← configAccepted_iff]
  refine ⟨fun haccepted => ?_, fun hrefused => gives_configEnter_refused hlen hbus hrefused⟩
  obtain ⟨hnewest, hstate, hsequence, hholders, hmemory, hothers⟩ := limpStored_enterConfig s
  have hport := portInstalled_enterConfig s
  obtain ⟨hcommit, hlinkL, hlinkR⟩ := hport.waits
  obtain ⟨hworking, htracks, -, -⟩ := enterConfig_blocks s
  obtain ⟨r, hr, hoperating, hzero, hof⟩ := reportChange_limp (limpStored_enterConfig s)
  obtain ⟨hpending, hcommitted, hmotion, hselector, hvision, hcache, hdiag, hvPort, hreader, hfree⟩ := enterConfig_frame s
  have hcPort := enterConfig_cPort s
  have hstore : (reportChange (enterConfig s)).store = (enterConfig s).store := by simp
  have hreply : (reportChange (enterConfig s)).cPort.diagReply = (enterConfig s).cPort.diagReply := raiseNotice_diagReply _ _
  refine ⟨_, reportChange (enterConfig s), gives_configEnter_accepted hlen hbus haccepted, rfl, ?_⟩
  rw [hstore]
  refine ⟨by simp, by simpa using hworking, by simp, by simpa using htracks, by simp, by simp, by simp, by simp,
    by simpa using enterConfig_builder s, hnewest, hstate, hsequence, hholders, hmemory, hothers, hcommit, hlinkL, hlinkR,
    fun x => (link_reportChange _ x).trans (enterConfig_link s x), ?_, ⟨r, hr, by simpa using hoperating, hzero, hof⟩, ?_,
    fun hwaits haccess => hreply.trans (hport.diagReply hwaits haccess), by simp, by simp, by simp, by simp, hport.reported⟩
  · rw [reportChange_diag, hdiag]
  · have hnotice := raiseNotice_notice_congr .stateChanged hdiag (by rw [hcPort] : (enterConfig s).cPort.notice = s.cPort.notice)
    rw [reportChange_cPort, raiseNotice_cPort, hnotice, raiseNotice_cPort _ s]
    generalize enterConfig s = v at hcPort
    rw [hcPort]

/-- Settles O4: a RESTART is the reset of the blocks, reported where the operating state changes; its store and port are the
installation's. -/
theorem restartResetsEachBlock : Obligations.RestartResetsEachBlock := by
  intro data s hlen hbus
  obtain ⟨hop, hworking, hcommitted, htracks, hmotion, hselector, hvision, hcache, hbuilder, hvPort, hreader, hpending, hfree⟩ :=
    restarted_blocks s
  have hlimp : LimpStored (restarted s).store := restarted_store s ▸ limpStored_resetBlocks s
  obtain ⟨hnewest, hstate, hsequence, hholders, hmemory, hothers⟩ := hlimp
  have hport := portInstalled_restarted s
  obtain ⟨hcommit, hlinkL, hlinkR⟩ := hport.waits
  have hdiag := restarted_diag s
  have hparam (p : Param) : (s.committed.getD defaultCal).get p = match s.committed with | some c => c.get p | none => p.default := by
    cases s.committed with
    | none => exact get_defaultCal p
    | some c => rfl
  have hline : (restarted s).cPort.distRequest = none ∧ (restarted s).cPort.busOff = s.cPort.busOff ∧
      (restarted s).cPort.sending = s.cPort.sending := by
    by_cases hsame : stateAfterRestart s = s.operating
    · rw [restarted_cPort_same hsame]
      exact ⟨rfl, rfl, rfl⟩
    · rw [restarted_cPort_changed hsame]
      exact ⟨rfl, rfl, rfl⟩
  obtain ⟨hdist, hoff, hsending⟩ := hline
  refine ⟨_, restarted s, gives_restart hlen hbus, rfl, hop, fun p => (congrArg (CalSet.get · p) hworking).trans (hparam p),
    hcommitted, htracks, hmotion, hselector, hvision, hcache, congrArg PatternBuilder.timer hbuilder,
    congrArg PatternBuilder.phase hbuilder, congrArg PatternBuilder.workingCopy hbuilder, congrArg PatternBuilder.mirror hbuilder,
    hnewest, hstate, hsequence, hholders, hmemory, hothers, hcommit, hlinkL, hlinkR, restarted_link s,
    by rw [hdiag], by rw [hdiag], by rw [hdiag], ?_, hdist, hvPort, hoff,
    hsending, hreader, hport.diagReply, ?_, hpending, hfree, hport⟩
  · rw [hop]
    exact congrArg DiagUnit.notices hdiag
  · dsimp only
    rw [hop]
    by_cases hsame : stateAfterRestart s = s.operating
    · rw [if_pos hsame]
      exact restarted_cPort_same hsame
    · rw [if_neg hsame]
      refine ⟨restarted_cPort_changed hsame, ?_⟩
      rw [restarted, if_neg hsame]
      have hreported := reportChange_limp (limpStored_resetBlocks s)
      obtain ⟨hoperating, -⟩ := resetBlocks_blocks s
      rwa [hoperating] at hreported

end Sys2Proof.Proofs

end
